-- ==== Sys2Proof/Word.lean ====
section
/-! DEFINITION. The two data widths of the block (R6): an 8-bit data byte and a 16-bit address.
Registers hold unsigned values that are always masked to their width (R10, R20, R23), which is what
`BitVec` arithmetic does. -/

namespace Sys2Proof

/-- A data byte: the width of `A`, `X`, `Y`, `S`, `P` and of a memory cell (R6). -/
abbrev Byte := BitVec 8

/-- An address: the width of `PC` and of the address bus (R6). -/
abbrev Word := BitVec 16

end Sys2Proof
end

