-- ==== Sys2Proof/Syntax.lean ====
section
/-! DEFINITION. The instructions, as syntax: one constructor for each documented row of spec/opcode_table.json
(R85: 151 pairs of mnemonic and addressing mode, each operand an argument) and ONE constructor for the 105
undocumented rows, which carries the opcode byte that tells them apart (R87, R228).

`Form` is the same instruction read the way the spec's rules read it, as "(mnemonic, addressing mode)" (R80, R240):
the rules of files 41 to 47 are stated per mnemonic, for every mode it has. -/

namespace Sys2Proof

/-- The eight addressing modes with an effective address (R105 to R112), with the operand bytes they fetch. -/
inductive MemMode where
  /-- `zp`, R105. -/
  | zp (z : Byte)
  /-- `zpx`, R106. -/
  | zpx (z : Byte)
  /-- `zpy`, R107. -/
  | zpy (z : Byte)
  /-- `abs`, R108. -/
  | abs (w : Word)
  /-- `abx`, R109. -/
  | abx (w : Word)
  /-- `aby`, R110. -/
  | aby (w : Word)
  /-- `izx`, R111. -/
  | izx (z : Byte)
  /-- `izy`, R112. -/
  | izy (z : Byte)
  deriving DecidableEq, Repr

/-- What a read-class instruction reads (R101, R118): an immediate byte or a memory operand. -/
inductive ReadMode where
  /-- `imm`, R104. -/
  | imm (v : Byte)
  | mem (m : MemMode)
  deriving DecidableEq, Repr

/-- What a read-modify-write instruction works on (R101, R120): register `A` or a memory operand. -/
inductive RmwMode where
  /-- `acc`, R103. -/
  | acc
  | mem (m : MemMode)
  deriving DecidableEq, Repr

/-- The 57 mnemonics of the opcode table: 56 documented ones and `ILL` (R85, R228). -/
inductive Mnemonic where
  | LDA | LDX | LDY | STA | STX | STY | TAX | TAY | TXA | TYA | TSX | TXS | PHA | PHP
  | PLA | PLP | ADC | SBC | CMP | CPX | CPY | AND | ORA | EOR | BIT | ASL | LSR | ROL
  | ROR | INC | DEC | INX | INY | DEX | DEY | BCC | BCS | BEQ | BNE | BMI | BPL | BVC
  | BVS | JMP | JSR | RTS | RTI | BRK | CLC | SEC | CLI | SEI | CLD | SED | CLV | NOP
  | ILL
  deriving DecidableEq, Repr

/-- An instruction as "(mnemonic, addressing mode)" with its operand. -/
inductive Form where
  /-- Mode `imp` (R102), and every undocumented opcode. -/
  | implied (mn : Mnemonic)
  /-- A read-class instruction (R101). -/
  | read (mn : Mnemonic) (m : ReadMode)
  /-- A store-class instruction (R101). -/
  | store (mn : Mnemonic) (m : MemMode)
  /-- A read-modify-write instruction (R101). -/
  | rmw (mn : Mnemonic) (m : RmwMode)
  /-- Mode `rel` (R113): the signed displacement byte. -/
  | branch (mn : Mnemonic) (d : Byte)
  /-- `JMP` and `JSR` in mode `abs`: the target. -/
  | absTarget (mn : Mnemonic) (t : Word)
  /-- Mode `ind` (R114): the address of the pointer. -/
  | indTarget (mn : Mnemonic) (p : Word)
  deriving DecidableEq, Repr

/-- The instruction set. Opcode bytes are those of R85 and R86. -/
inductive Instr where
  -- spec/41_load_store_transfer.md
  /-- `LDA #v`: opcode 0xA9, R130. -/
  | ldaImm (v : Byte)
  /-- `LDA z`: opcode 0xA5, R130. -/
  | ldaZp (z : Byte)
  /-- `LDA z,X`: opcode 0xB5, R130. -/
  | ldaZpx (z : Byte)
  /-- `LDA w`: opcode 0xAD, R130. -/
  | ldaAbs (w : Word)
  /-- `LDA w,X`: opcode 0xBD, R130. -/
  | ldaAbx (w : Word)
  /-- `LDA w,Y`: opcode 0xB9, R130. -/
  | ldaAby (w : Word)
  /-- `LDA (z,X)`: opcode 0xA1, R130. -/
  | ldaIzx (z : Byte)
  /-- `LDA (z),Y`: opcode 0xB1, R130. -/
  | ldaIzy (z : Byte)
  /-- `LDX #v`: opcode 0xA2, R131. -/
  | ldxImm (v : Byte)
  /-- `LDX z`: opcode 0xA6, R131. -/
  | ldxZp (z : Byte)
  /-- `LDX z,Y`: opcode 0xB6, R131. -/
  | ldxZpy (z : Byte)
  /-- `LDX w`: opcode 0xAE, R131. -/
  | ldxAbs (w : Word)
  /-- `LDX w,Y`: opcode 0xBE, R131. -/
  | ldxAby (w : Word)
  /-- `LDY #v`: opcode 0xA0, R132. -/
  | ldyImm (v : Byte)
  /-- `LDY z`: opcode 0xA4, R132. -/
  | ldyZp (z : Byte)
  /-- `LDY z,X`: opcode 0xB4, R132. -/
  | ldyZpx (z : Byte)
  /-- `LDY w`: opcode 0xAC, R132. -/
  | ldyAbs (w : Word)
  /-- `LDY w,X`: opcode 0xBC, R132. -/
  | ldyAbx (w : Word)
  /-- `STA z`: opcode 0x85, R133. -/
  | staZp (z : Byte)
  /-- `STA z,X`: opcode 0x95, R133. -/
  | staZpx (z : Byte)
  /-- `STA w`: opcode 0x8D, R133. -/
  | staAbs (w : Word)
  /-- `STA w,X`: opcode 0x9D, R133. -/
  | staAbx (w : Word)
  /-- `STA w,Y`: opcode 0x99, R133. -/
  | staAby (w : Word)
  /-- `STA (z,X)`: opcode 0x81, R133. -/
  | staIzx (z : Byte)
  /-- `STA (z),Y`: opcode 0x91, R133. -/
  | staIzy (z : Byte)
  /-- `STX z`: opcode 0x86, R134. -/
  | stxZp (z : Byte)
  /-- `STX z,Y`: opcode 0x96, R134. -/
  | stxZpy (z : Byte)
  /-- `STX w`: opcode 0x8E, R134. -/
  | stxAbs (w : Word)
  /-- `STY z`: opcode 0x84, R135. -/
  | styZp (z : Byte)
  /-- `STY z,X`: opcode 0x94, R135. -/
  | styZpx (z : Byte)
  /-- `STY w`: opcode 0x8C, R135. -/
  | styAbs (w : Word)
  /-- `TAX`: opcode 0xAA, R136. -/
  | tax
  /-- `TAY`: opcode 0xA8, R137. -/
  | tay
  /-- `TXA`: opcode 0x8A, R138. -/
  | txa
  /-- `TYA`: opcode 0x98, R139. -/
  | tya
  /-- `TSX`: opcode 0xBA, R140. -/
  | tsx
  /-- `TXS`: opcode 0x9A, R141. -/
  | txs
  -- spec/42_stack.md
  /-- `PHA`: opcode 0x48, R152. -/
  | pha
  /-- `PHP`: opcode 0x08, R153. -/
  | php
  /-- `PLA`: opcode 0x68, R154. -/
  | pla
  /-- `PLP`: opcode 0x28, R155. -/
  | plp
  -- spec/43_arithmetic_compare.md
  /-- `ADC #v`: opcode 0x69, R160. -/
  | adcImm (v : Byte)
  /-- `ADC z`: opcode 0x65, R160. -/
  | adcZp (z : Byte)
  /-- `ADC z,X`: opcode 0x75, R160. -/
  | adcZpx (z : Byte)
  /-- `ADC w`: opcode 0x6D, R160. -/
  | adcAbs (w : Word)
  /-- `ADC w,X`: opcode 0x7D, R160. -/
  | adcAbx (w : Word)
  /-- `ADC w,Y`: opcode 0x79, R160. -/
  | adcAby (w : Word)
  /-- `ADC (z,X)`: opcode 0x61, R160. -/
  | adcIzx (z : Byte)
  /-- `ADC (z),Y`: opcode 0x71, R160. -/
  | adcIzy (z : Byte)
  /-- `SBC #v`: opcode 0xE9, R161. -/
  | sbcImm (v : Byte)
  /-- `SBC z`: opcode 0xE5, R161. -/
  | sbcZp (z : Byte)
  /-- `SBC z,X`: opcode 0xF5, R161. -/
  | sbcZpx (z : Byte)
  /-- `SBC w`: opcode 0xED, R161. -/
  | sbcAbs (w : Word)
  /-- `SBC w,X`: opcode 0xFD, R161. -/
  | sbcAbx (w : Word)
  /-- `SBC w,Y`: opcode 0xF9, R161. -/
  | sbcAby (w : Word)
  /-- `SBC (z,X)`: opcode 0xE1, R161. -/
  | sbcIzx (z : Byte)
  /-- `SBC (z),Y`: opcode 0xF1, R161. -/
  | sbcIzy (z : Byte)
  /-- `CMP #v`: opcode 0xC9, R162. -/
  | cmpImm (v : Byte)
  /-- `CMP z`: opcode 0xC5, R162. -/
  | cmpZp (z : Byte)
  /-- `CMP z,X`: opcode 0xD5, R162. -/
  | cmpZpx (z : Byte)
  /-- `CMP w`: opcode 0xCD, R162. -/
  | cmpAbs (w : Word)
  /-- `CMP w,X`: opcode 0xDD, R162. -/
  | cmpAbx (w : Word)
  /-- `CMP w,Y`: opcode 0xD9, R162. -/
  | cmpAby (w : Word)
  /-- `CMP (z,X)`: opcode 0xC1, R162. -/
  | cmpIzx (z : Byte)
  /-- `CMP (z),Y`: opcode 0xD1, R162. -/
  | cmpIzy (z : Byte)
  /-- `CPX #v`: opcode 0xE0, R163. -/
  | cpxImm (v : Byte)
  /-- `CPX z`: opcode 0xE4, R163. -/
  | cpxZp (z : Byte)
  /-- `CPX w`: opcode 0xEC, R163. -/
  | cpxAbs (w : Word)
  /-- `CPY #v`: opcode 0xC0, R164. -/
  | cpyImm (v : Byte)
  /-- `CPY z`: opcode 0xC4, R164. -/
  | cpyZp (z : Byte)
  /-- `CPY w`: opcode 0xCC, R164. -/
  | cpyAbs (w : Word)
  -- spec/44_logic_bit.md
  /-- `AND #v`: opcode 0x29, R170. -/
  | andImm (v : Byte)
  /-- `AND z`: opcode 0x25, R170. -/
  | andZp (z : Byte)
  /-- `AND z,X`: opcode 0x35, R170. -/
  | andZpx (z : Byte)
  /-- `AND w`: opcode 0x2D, R170. -/
  | andAbs (w : Word)
  /-- `AND w,X`: opcode 0x3D, R170. -/
  | andAbx (w : Word)
  /-- `AND w,Y`: opcode 0x39, R170. -/
  | andAby (w : Word)
  /-- `AND (z,X)`: opcode 0x21, R170. -/
  | andIzx (z : Byte)
  /-- `AND (z),Y`: opcode 0x31, R170. -/
  | andIzy (z : Byte)
  /-- `ORA #v`: opcode 0x09, R171. -/
  | oraImm (v : Byte)
  /-- `ORA z`: opcode 0x05, R171. -/
  | oraZp (z : Byte)
  /-- `ORA z,X`: opcode 0x15, R171. -/
  | oraZpx (z : Byte)
  /-- `ORA w`: opcode 0x0D, R171. -/
  | oraAbs (w : Word)
  /-- `ORA w,X`: opcode 0x1D, R171. -/
  | oraAbx (w : Word)
  /-- `ORA w,Y`: opcode 0x19, R171. -/
  | oraAby (w : Word)
  /-- `ORA (z,X)`: opcode 0x01, R171. -/
  | oraIzx (z : Byte)
  /-- `ORA (z),Y`: opcode 0x11, R171. -/
  | oraIzy (z : Byte)
  /-- `EOR #v`: opcode 0x49, R172. -/
  | eorImm (v : Byte)
  /-- `EOR z`: opcode 0x45, R172. -/
  | eorZp (z : Byte)
  /-- `EOR z,X`: opcode 0x55, R172. -/
  | eorZpx (z : Byte)
  /-- `EOR w`: opcode 0x4D, R172. -/
  | eorAbs (w : Word)
  /-- `EOR w,X`: opcode 0x5D, R172. -/
  | eorAbx (w : Word)
  /-- `EOR w,Y`: opcode 0x59, R172. -/
  | eorAby (w : Word)
  /-- `EOR (z,X)`: opcode 0x41, R172. -/
  | eorIzx (z : Byte)
  /-- `EOR (z),Y`: opcode 0x51, R172. -/
  | eorIzy (z : Byte)
  /-- `BIT z`: opcode 0x24, R173. -/
  | bitZp (z : Byte)
  /-- `BIT w`: opcode 0x2C, R173. -/
  | bitAbs (w : Word)
  -- spec/45_shift_incdec.md
  /-- `ASL A`: opcode 0x0A, R180. -/
  | aslAcc
  /-- `ASL z`: opcode 0x06, R180. -/
  | aslZp (z : Byte)
  /-- `ASL z,X`: opcode 0x16, R180. -/
  | aslZpx (z : Byte)
  /-- `ASL w`: opcode 0x0E, R180. -/
  | aslAbs (w : Word)
  /-- `ASL w,X`: opcode 0x1E, R180. -/
  | aslAbx (w : Word)
  /-- `LSR A`: opcode 0x4A, R181. -/
  | lsrAcc
  /-- `LSR z`: opcode 0x46, R181. -/
  | lsrZp (z : Byte)
  /-- `LSR z,X`: opcode 0x56, R181. -/
  | lsrZpx (z : Byte)
  /-- `LSR w`: opcode 0x4E, R181. -/
  | lsrAbs (w : Word)
  /-- `LSR w,X`: opcode 0x5E, R181. -/
  | lsrAbx (w : Word)
  /-- `ROL A`: opcode 0x2A, R182. -/
  | rolAcc
  /-- `ROL z`: opcode 0x26, R182. -/
  | rolZp (z : Byte)
  /-- `ROL z,X`: opcode 0x36, R182. -/
  | rolZpx (z : Byte)
  /-- `ROL w`: opcode 0x2E, R182. -/
  | rolAbs (w : Word)
  /-- `ROL w,X`: opcode 0x3E, R182. -/
  | rolAbx (w : Word)
  /-- `ROR A`: opcode 0x6A, R183. -/
  | rorAcc
  /-- `ROR z`: opcode 0x66, R183. -/
  | rorZp (z : Byte)
  /-- `ROR z,X`: opcode 0x76, R183. -/
  | rorZpx (z : Byte)
  /-- `ROR w`: opcode 0x6E, R183. -/
  | rorAbs (w : Word)
  /-- `ROR w,X`: opcode 0x7E, R183. -/
  | rorAbx (w : Word)
  /-- `INC z`: opcode 0xE6, R184. -/
  | incZp (z : Byte)
  /-- `INC z,X`: opcode 0xF6, R184. -/
  | incZpx (z : Byte)
  /-- `INC w`: opcode 0xEE, R184. -/
  | incAbs (w : Word)
  /-- `INC w,X`: opcode 0xFE, R184. -/
  | incAbx (w : Word)
  /-- `DEC z`: opcode 0xC6, R185. -/
  | decZp (z : Byte)
  /-- `DEC z,X`: opcode 0xD6, R185. -/
  | decZpx (z : Byte)
  /-- `DEC w`: opcode 0xCE, R185. -/
  | decAbs (w : Word)
  /-- `DEC w,X`: opcode 0xDE, R185. -/
  | decAbx (w : Word)
  /-- `INX`: opcode 0xE8, R186. -/
  | inx
  /-- `INY`: opcode 0xC8, R187. -/
  | iny
  /-- `DEX`: opcode 0xCA, R188. -/
  | dex
  /-- `DEY`: opcode 0x88, R189. -/
  | dey
  -- spec/46_control_transfer.md
  /-- `BCC *+d`: opcode 0x90, R201. -/
  | bcc (d : Byte)
  /-- `BCS *+d`: opcode 0xB0, R202. -/
  | bcs (d : Byte)
  /-- `BEQ *+d`: opcode 0xF0, R203. -/
  | beq (d : Byte)
  /-- `BNE *+d`: opcode 0xD0, R204. -/
  | bne (d : Byte)
  /-- `BMI *+d`: opcode 0x30, R205. -/
  | bmi (d : Byte)
  /-- `BPL *+d`: opcode 0x10, R206. -/
  | bpl (d : Byte)
  /-- `BVC *+d`: opcode 0x50, R207. -/
  | bvc (d : Byte)
  /-- `BVS *+d`: opcode 0x70, R208. -/
  | bvs (d : Byte)
  /-- `JMP w`: opcode 0x4C, R209. -/
  | jmpAbs (t : Word)
  /-- `JMP (p)`: opcode 0x6C, R209. -/
  | jmpInd (p : Word)
  /-- `JSR w`: opcode 0x20, R211. -/
  | jsr (t : Word)
  /-- `RTS`: opcode 0x60, R212. -/
  | rts
  /-- `RTI`: opcode 0x40, R213. -/
  | rti
  /-- `BRK`: opcode 0x00, R214. -/
  | brk
  -- spec/47_flag_nop_illegal.md
  /-- `CLC`: opcode 0x18, R220. -/
  | clc
  /-- `SEC`: opcode 0x38, R221. -/
  | sec
  /-- `CLI`: opcode 0x58, R222. -/
  | cli
  /-- `SEI`: opcode 0x78, R223. -/
  | sei
  /-- `CLD`: opcode 0xD8, R224. -/
  | cld
  /-- `SED`: opcode 0xF8, R225. -/
  | sed
  /-- `CLV`: opcode 0xB8, R226. -/
  | clv
  /-- `NOP`: opcode 0xEA, R227. -/
  | nop
  /-- Any of the 105 undocumented opcode bytes: R87, R228. -/
  | ill (op : Byte)
  deriving DecidableEq, Repr

/-- The row of the opcode table an instruction is, as mnemonic and mode. -/
def Instr.form : Instr → Form
  | .ldaImm v => .read .LDA (.imm v)
  | .ldaZp z => .read .LDA (.mem (.zp z))
  | .ldaZpx z => .read .LDA (.mem (.zpx z))
  | .ldaAbs w => .read .LDA (.mem (.abs w))
  | .ldaAbx w => .read .LDA (.mem (.abx w))
  | .ldaAby w => .read .LDA (.mem (.aby w))
  | .ldaIzx z => .read .LDA (.mem (.izx z))
  | .ldaIzy z => .read .LDA (.mem (.izy z))
  | .ldxImm v => .read .LDX (.imm v)
  | .ldxZp z => .read .LDX (.mem (.zp z))
  | .ldxZpy z => .read .LDX (.mem (.zpy z))
  | .ldxAbs w => .read .LDX (.mem (.abs w))
  | .ldxAby w => .read .LDX (.mem (.aby w))
  | .ldyImm v => .read .LDY (.imm v)
  | .ldyZp z => .read .LDY (.mem (.zp z))
  | .ldyZpx z => .read .LDY (.mem (.zpx z))
  | .ldyAbs w => .read .LDY (.mem (.abs w))
  | .ldyAbx w => .read .LDY (.mem (.abx w))
  | .staZp z => .store .STA (.zp z)
  | .staZpx z => .store .STA (.zpx z)
  | .staAbs w => .store .STA (.abs w)
  | .staAbx w => .store .STA (.abx w)
  | .staAby w => .store .STA (.aby w)
  | .staIzx z => .store .STA (.izx z)
  | .staIzy z => .store .STA (.izy z)
  | .stxZp z => .store .STX (.zp z)
  | .stxZpy z => .store .STX (.zpy z)
  | .stxAbs w => .store .STX (.abs w)
  | .styZp z => .store .STY (.zp z)
  | .styZpx z => .store .STY (.zpx z)
  | .styAbs w => .store .STY (.abs w)
  | .tax => .implied .TAX
  | .tay => .implied .TAY
  | .txa => .implied .TXA
  | .tya => .implied .TYA
  | .tsx => .implied .TSX
  | .txs => .implied .TXS
  | .pha => .implied .PHA
  | .php => .implied .PHP
  | .pla => .implied .PLA
  | .plp => .implied .PLP
  | .adcImm v => .read .ADC (.imm v)
  | .adcZp z => .read .ADC (.mem (.zp z))
  | .adcZpx z => .read .ADC (.mem (.zpx z))
  | .adcAbs w => .read .ADC (.mem (.abs w))
  | .adcAbx w => .read .ADC (.mem (.abx w))
  | .adcAby w => .read .ADC (.mem (.aby w))
  | .adcIzx z => .read .ADC (.mem (.izx z))
  | .adcIzy z => .read .ADC (.mem (.izy z))
  | .sbcImm v => .read .SBC (.imm v)
  | .sbcZp z => .read .SBC (.mem (.zp z))
  | .sbcZpx z => .read .SBC (.mem (.zpx z))
  | .sbcAbs w => .read .SBC (.mem (.abs w))
  | .sbcAbx w => .read .SBC (.mem (.abx w))
  | .sbcAby w => .read .SBC (.mem (.aby w))
  | .sbcIzx z => .read .SBC (.mem (.izx z))
  | .sbcIzy z => .read .SBC (.mem (.izy z))
  | .cmpImm v => .read .CMP (.imm v)
  | .cmpZp z => .read .CMP (.mem (.zp z))
  | .cmpZpx z => .read .CMP (.mem (.zpx z))
  | .cmpAbs w => .read .CMP (.mem (.abs w))
  | .cmpAbx w => .read .CMP (.mem (.abx w))
  | .cmpAby w => .read .CMP (.mem (.aby w))
  | .cmpIzx z => .read .CMP (.mem (.izx z))
  | .cmpIzy z => .read .CMP (.mem (.izy z))
  | .cpxImm v => .read .CPX (.imm v)
  | .cpxZp z => .read .CPX (.mem (.zp z))
  | .cpxAbs w => .read .CPX (.mem (.abs w))
  | .cpyImm v => .read .CPY (.imm v)
  | .cpyZp z => .read .CPY (.mem (.zp z))
  | .cpyAbs w => .read .CPY (.mem (.abs w))
  | .andImm v => .read .AND (.imm v)
  | .andZp z => .read .AND (.mem (.zp z))
  | .andZpx z => .read .AND (.mem (.zpx z))
  | .andAbs w => .read .AND (.mem (.abs w))
  | .andAbx w => .read .AND (.mem (.abx w))
  | .andAby w => .read .AND (.mem (.aby w))
  | .andIzx z => .read .AND (.mem (.izx z))
  | .andIzy z => .read .AND (.mem (.izy z))
  | .oraImm v => .read .ORA (.imm v)
  | .oraZp z => .read .ORA (.mem (.zp z))
  | .oraZpx z => .read .ORA (.mem (.zpx z))
  | .oraAbs w => .read .ORA (.mem (.abs w))
  | .oraAbx w => .read .ORA (.mem (.abx w))
  | .oraAby w => .read .ORA (.mem (.aby w))
  | .oraIzx z => .read .ORA (.mem (.izx z))
  | .oraIzy z => .read .ORA (.mem (.izy z))
  | .eorImm v => .read .EOR (.imm v)
  | .eorZp z => .read .EOR (.mem (.zp z))
  | .eorZpx z => .read .EOR (.mem (.zpx z))
  | .eorAbs w => .read .EOR (.mem (.abs w))
  | .eorAbx w => .read .EOR (.mem (.abx w))
  | .eorAby w => .read .EOR (.mem (.aby w))
  | .eorIzx z => .read .EOR (.mem (.izx z))
  | .eorIzy z => .read .EOR (.mem (.izy z))
  | .bitZp z => .read .BIT (.mem (.zp z))
  | .bitAbs w => .read .BIT (.mem (.abs w))
  | .aslAcc => .rmw .ASL .acc
  | .aslZp z => .rmw .ASL (.mem (.zp z))
  | .aslZpx z => .rmw .ASL (.mem (.zpx z))
  | .aslAbs w => .rmw .ASL (.mem (.abs w))
  | .aslAbx w => .rmw .ASL (.mem (.abx w))
  | .lsrAcc => .rmw .LSR .acc
  | .lsrZp z => .rmw .LSR (.mem (.zp z))
  | .lsrZpx z => .rmw .LSR (.mem (.zpx z))
  | .lsrAbs w => .rmw .LSR (.mem (.abs w))
  | .lsrAbx w => .rmw .LSR (.mem (.abx w))
  | .rolAcc => .rmw .ROL .acc
  | .rolZp z => .rmw .ROL (.mem (.zp z))
  | .rolZpx z => .rmw .ROL (.mem (.zpx z))
  | .rolAbs w => .rmw .ROL (.mem (.abs w))
  | .rolAbx w => .rmw .ROL (.mem (.abx w))
  | .rorAcc => .rmw .ROR .acc
  | .rorZp z => .rmw .ROR (.mem (.zp z))
  | .rorZpx z => .rmw .ROR (.mem (.zpx z))
  | .rorAbs w => .rmw .ROR (.mem (.abs w))
  | .rorAbx w => .rmw .ROR (.mem (.abx w))
  | .incZp z => .rmw .INC (.mem (.zp z))
  | .incZpx z => .rmw .INC (.mem (.zpx z))
  | .incAbs w => .rmw .INC (.mem (.abs w))
  | .incAbx w => .rmw .INC (.mem (.abx w))
  | .decZp z => .rmw .DEC (.mem (.zp z))
  | .decZpx z => .rmw .DEC (.mem (.zpx z))
  | .decAbs w => .rmw .DEC (.mem (.abs w))
  | .decAbx w => .rmw .DEC (.mem (.abx w))
  | .inx => .implied .INX
  | .iny => .implied .INY
  | .dex => .implied .DEX
  | .dey => .implied .DEY
  | .bcc d => .branch .BCC d
  | .bcs d => .branch .BCS d
  | .beq d => .branch .BEQ d
  | .bne d => .branch .BNE d
  | .bmi d => .branch .BMI d
  | .bpl d => .branch .BPL d
  | .bvc d => .branch .BVC d
  | .bvs d => .branch .BVS d
  | .jmpAbs t => .absTarget .JMP t
  | .jmpInd p => .indTarget .JMP p
  | .jsr t => .absTarget .JSR t
  | .rts => .implied .RTS
  | .rti => .implied .RTI
  | .brk => .implied .BRK
  | .clc => .implied .CLC
  | .sec => .implied .SEC
  | .cli => .implied .CLI
  | .sei => .implied .SEI
  | .cld => .implied .CLD
  | .sed => .implied .SED
  | .clv => .implied .CLV
  | .nop => .implied .NOP
  | .ill _ => .implied .ILL

/-- Operand bytes of a memory mode (R81, R100). -/
def MemMode.operandBytes : MemMode → Nat
  | .zp _ => 1
  | .zpx _ => 1
  | .zpy _ => 1
  | .abs _ => 2
  | .abx _ => 2
  | .aby _ => 2
  | .izx _ => 1
  | .izy _ => 1

/-- The length in bytes of an instruction with a memory operand (R84). -/
def MemMode.length (m : MemMode) : Nat := 1 + m.operandBytes

/-- R84. -/
def ReadMode.length : ReadMode → Nat
  | .imm _ => 2
  | .mem m => m.length

/-- R84. -/
def RmwMode.length : RmwMode → Nat
  | .acc => 1
  | .mem m => m.length

/-- "How a decoder tells the length" (R84): `imp`, `acc` and `ILL` 1, `rel` 2, `ind` 3, the others by mode. -/
def Form.length : Form → Nat
  | .implied _ => 1
  | .read _ m => m.length
  | .store _ m => m.length
  | .rmw _ m => m.length
  | .branch _ _ => 2
  | .absTarget _ _ => 3
  | .indTarget _ _ => 3

/-- The length in bytes of an instruction (R80, R84). -/
def Instr.length (i : Instr) : Nat := i.form.length

end Sys2Proof
end

