-- ==== Sys2Proof/Decode.lean ====
section
/-! DEFINITION. Decoding, the byte-order helpers it uses, and the encoder (30_encoding.md).

"decoding is a 256-way table lookup" (R80): the table below is the grid of R86, high nibble in rows and low nibble
in columns, each cell saying how many operand bytes the format fetches (R81) and which instruction they make.
Decoding never rejects an opcode (R83); the one thing it can reject is a byte sequence that ends inside an
instruction, which the machine itself never meets because `PC` wraps (R84). -/

namespace Sys2Proof

/-- `hi || lo` of R10, "`hi * 256 + lo`": a 16-bit quantity from its two bytes. -/
def joinBytes (hi lo : Byte) : Word := BitVec.ofNat 16 (hi.toNat * 256 + lo.toNat)

/-- Bits 15:8 of a 16-bit quantity; of an address, its page (R14). -/
def highByte (w : Word) : Byte := w.extractLsb' 8 8

/-- Bits 7:0 of a 16-bit quantity. -/
def lowByte (w : Word) : Byte := w.extractLsb' 0 8

/-- One entry of the opcode map, by the three formats of R81. -/
inductive TableEntry where
  /-- Format F1: the opcode byte alone. -/
  | f1 (i : Instr)
  /-- Format F2: one operand byte. -/
  | f2 (f : Byte → Instr)
  /-- Format F3: two operand bytes, low byte first. -/
  | f3 (f : Word → Instr)
  /-- `-` in the grid: an undocumented opcode, always one byte long (R84, R87). -/
  | undoc

/-- Row 0x of the grid of R86. -/
def opcodeRow0 : List TableEntry :=
  [.f1 .brk, .f2 .oraIzx, .undoc, .undoc, .undoc, .f2 .oraZp, .f2 .aslZp, .undoc,
   .f1 .php, .f2 .oraImm, .f1 .aslAcc, .undoc, .undoc, .f3 .oraAbs, .f3 .aslAbs, .undoc]

/-- Row 1x of the grid of R86. -/
def opcodeRow1 : List TableEntry :=
  [.f2 .bpl, .f2 .oraIzy, .undoc, .undoc, .undoc, .f2 .oraZpx, .f2 .aslZpx, .undoc,
   .f1 .clc, .f3 .oraAby, .undoc, .undoc, .undoc, .f3 .oraAbx, .f3 .aslAbx, .undoc]

/-- Row 2x of the grid of R86. -/
def opcodeRow2 : List TableEntry :=
  [.f3 .jsr, .f2 .andIzx, .undoc, .undoc, .f2 .bitZp, .f2 .andZp, .f2 .rolZp, .undoc,
   .f1 .plp, .f2 .andImm, .f1 .rolAcc, .undoc, .f3 .bitAbs, .f3 .andAbs, .f3 .rolAbs, .undoc]

/-- Row 3x of the grid of R86. -/
def opcodeRow3 : List TableEntry :=
  [.f2 .bmi, .f2 .andIzy, .undoc, .undoc, .undoc, .f2 .andZpx, .f2 .rolZpx, .undoc,
   .f1 .sec, .f3 .andAby, .undoc, .undoc, .undoc, .f3 .andAbx, .f3 .rolAbx, .undoc]

/-- Row 4x of the grid of R86. -/
def opcodeRow4 : List TableEntry :=
  [.f1 .rti, .f2 .eorIzx, .undoc, .undoc, .undoc, .f2 .eorZp, .f2 .lsrZp, .undoc,
   .f1 .pha, .f2 .eorImm, .f1 .lsrAcc, .undoc, .f3 .jmpAbs, .f3 .eorAbs, .f3 .lsrAbs, .undoc]

/-- Row 5x of the grid of R86. -/
def opcodeRow5 : List TableEntry :=
  [.f2 .bvc, .f2 .eorIzy, .undoc, .undoc, .undoc, .f2 .eorZpx, .f2 .lsrZpx, .undoc,
   .f1 .cli, .f3 .eorAby, .undoc, .undoc, .undoc, .f3 .eorAbx, .f3 .lsrAbx, .undoc]

/-- Row 6x of the grid of R86. -/
def opcodeRow6 : List TableEntry :=
  [.f1 .rts, .f2 .adcIzx, .undoc, .undoc, .undoc, .f2 .adcZp, .f2 .rorZp, .undoc,
   .f1 .pla, .f2 .adcImm, .f1 .rorAcc, .undoc, .f3 .jmpInd, .f3 .adcAbs, .f3 .rorAbs, .undoc]

/-- Row 7x of the grid of R86. -/
def opcodeRow7 : List TableEntry :=
  [.f2 .bvs, .f2 .adcIzy, .undoc, .undoc, .undoc, .f2 .adcZpx, .f2 .rorZpx, .undoc,
   .f1 .sei, .f3 .adcAby, .undoc, .undoc, .undoc, .f3 .adcAbx, .f3 .rorAbx, .undoc]

/-- Row 8x of the grid of R86. -/
def opcodeRow8 : List TableEntry :=
  [.undoc, .f2 .staIzx, .undoc, .undoc, .f2 .styZp, .f2 .staZp, .f2 .stxZp, .undoc,
   .f1 .dey, .undoc, .f1 .txa, .undoc, .f3 .styAbs, .f3 .staAbs, .f3 .stxAbs, .undoc]

/-- Row 9x of the grid of R86. -/
def opcodeRow9 : List TableEntry :=
  [.f2 .bcc, .f2 .staIzy, .undoc, .undoc, .f2 .styZpx, .f2 .staZpx, .f2 .stxZpy, .undoc,
   .f1 .tya, .f3 .staAby, .f1 .txs, .undoc, .undoc, .f3 .staAbx, .undoc, .undoc]

/-- Row Ax of the grid of R86. -/
def opcodeRowA : List TableEntry :=
  [.f2 .ldyImm, .f2 .ldaIzx, .f2 .ldxImm, .undoc, .f2 .ldyZp, .f2 .ldaZp, .f2 .ldxZp, .undoc,
   .f1 .tay, .f2 .ldaImm, .f1 .tax, .undoc, .f3 .ldyAbs, .f3 .ldaAbs, .f3 .ldxAbs, .undoc]

/-- Row Bx of the grid of R86. -/
def opcodeRowB : List TableEntry :=
  [.f2 .bcs, .f2 .ldaIzy, .undoc, .undoc, .f2 .ldyZpx, .f2 .ldaZpx, .f2 .ldxZpy, .undoc,
   .f1 .clv, .f3 .ldaAby, .f1 .tsx, .undoc, .f3 .ldyAbx, .f3 .ldaAbx, .f3 .ldxAby, .undoc]

/-- Row Cx of the grid of R86. -/
def opcodeRowC : List TableEntry :=
  [.f2 .cpyImm, .f2 .cmpIzx, .undoc, .undoc, .f2 .cpyZp, .f2 .cmpZp, .f2 .decZp, .undoc,
   .f1 .iny, .f2 .cmpImm, .f1 .dex, .undoc, .f3 .cpyAbs, .f3 .cmpAbs, .f3 .decAbs, .undoc]

/-- Row Dx of the grid of R86. -/
def opcodeRowD : List TableEntry :=
  [.f2 .bne, .f2 .cmpIzy, .undoc, .undoc, .undoc, .f2 .cmpZpx, .f2 .decZpx, .undoc,
   .f1 .cld, .f3 .cmpAby, .undoc, .undoc, .undoc, .f3 .cmpAbx, .f3 .decAbx, .undoc]

/-- Row Ex of the grid of R86. -/
def opcodeRowE : List TableEntry :=
  [.f2 .cpxImm, .f2 .sbcIzx, .undoc, .undoc, .f2 .cpxZp, .f2 .sbcZp, .f2 .incZp, .undoc,
   .f1 .inx, .f2 .sbcImm, .f1 .nop, .undoc, .f3 .cpxAbs, .f3 .sbcAbs, .f3 .incAbs, .undoc]

/-- Row Fx of the grid of R86. -/
def opcodeRowF : List TableEntry :=
  [.f2 .beq, .f2 .sbcIzy, .undoc, .undoc, .undoc, .f2 .sbcZpx, .f2 .incZpx, .undoc,
   .f1 .sed, .f3 .sbcAby, .undoc, .undoc, .undoc, .f3 .sbcAbx, .f3 .incAbx, .undoc]

/-- The "fixed 256-entry table" of R80, in opcode order. -/
def opcodeTable : List TableEntry :=
  opcodeRow0 ++ opcodeRow1 ++ opcodeRow2 ++ opcodeRow3 ++
  opcodeRow4 ++ opcodeRow5 ++ opcodeRow6 ++ opcodeRow7 ++
  opcodeRow8 ++ opcodeRow9 ++ opcodeRowA ++ opcodeRowB ++
  opcodeRowC ++ opcodeRowD ++ opcodeRowE ++ opcodeRowF

/-- The table's cell for an opcode byte. -/
def tableEntry (op : Byte) : TableEntry := opcodeTable.getD op.toNat .undoc

/-- The instruction whose opcode byte is `op` and whose next two bytes are `b1` and `b2`; a shorter instruction
ignores what follows it (R81, R84). Total: every byte value decodes (R83). -/
def decodeInstr (op b1 b2 : Byte) : Instr :=
  match tableEntry op with
  | .f1 i => i
  | .f2 f => f b1
  | .f3 f => f (joinBytes b2 b1)
  | .undoc => .ill op

/-- Why a byte sequence is not the start of an instruction. -/
inductive DecodeError where
  /-- The bytes end before the opcode byte or before the last operand byte. -/
  | truncated
  deriving DecidableEq, Repr

/-- Decoding a byte sequence: the instruction it starts with and the bytes after it, or the reason there is none. -/
def decode : List Byte → Except DecodeError (Instr × List Byte)
  | [] => .error .truncated
  | op :: rest =>
    match tableEntry op, rest with
    | .f1 i, _ => .ok (i, rest)
    | .undoc, _ => .ok (.ill op, rest)
    | .f2 f, b1 :: rest' => .ok (f b1, rest')
    | .f3 f, b1 :: b2 :: rest' => .ok (f (joinBytes b2 b1), rest')
    | .f2 _, [] => .error .truncated
    | .f3 _, [] => .error .truncated
    | .f3 _, [_] => .error .truncated

/-- The `k`-th byte of an instruction word numbered with bit 0 the least significant bit of the first byte. -/
def wordByte (w k : Nat) : Byte := BitVec.ofNat 8 (w / 256 ^ k)

/-- The bytes of an instruction whose `nbits` given bits are `w`, every higher bit 0, up to the longest
instruction (three bytes, R80). -/
def tableWordBytes (nbits w : Nat) : List Byte :=
  [wordByte (w % 2 ^ nbits) 0, wordByte (w % 2 ^ nbits) 1, wordByte (w % 2 ^ nbits) 2]

/-- What the decoder reads from an instruction word as spec/opcode_table.json numbers its bits. -/
def decodeTableWord (nbits w : Nat) : Option Instr :=
  match decode (tableWordBytes nbits w) with
  | .ok (i, _) => some i
  | .error _ => none

/-- A two-byte operand as it lies in memory, low byte at the lower address (R56, R81). -/
def operand16 (w : Word) : List Byte := [lowByte w, highByte w]

/-- The bytes of an instruction, from R81 and the table of R85. -/
def encode : Instr → List Byte
  | .ldaImm v => [0xA9, v]
  | .ldaZp z => [0xA5, z]
  | .ldaZpx z => [0xB5, z]
  | .ldaAbs w => 0xAD :: operand16 w
  | .ldaAbx w => 0xBD :: operand16 w
  | .ldaAby w => 0xB9 :: operand16 w
  | .ldaIzx z => [0xA1, z]
  | .ldaIzy z => [0xB1, z]
  | .ldxImm v => [0xA2, v]
  | .ldxZp z => [0xA6, z]
  | .ldxZpy z => [0xB6, z]
  | .ldxAbs w => 0xAE :: operand16 w
  | .ldxAby w => 0xBE :: operand16 w
  | .ldyImm v => [0xA0, v]
  | .ldyZp z => [0xA4, z]
  | .ldyZpx z => [0xB4, z]
  | .ldyAbs w => 0xAC :: operand16 w
  | .ldyAbx w => 0xBC :: operand16 w
  | .staZp z => [0x85, z]
  | .staZpx z => [0x95, z]
  | .staAbs w => 0x8D :: operand16 w
  | .staAbx w => 0x9D :: operand16 w
  | .staAby w => 0x99 :: operand16 w
  | .staIzx z => [0x81, z]
  | .staIzy z => [0x91, z]
  | .stxZp z => [0x86, z]
  | .stxZpy z => [0x96, z]
  | .stxAbs w => 0x8E :: operand16 w
  | .styZp z => [0x84, z]
  | .styZpx z => [0x94, z]
  | .styAbs w => 0x8C :: operand16 w
  | .tax => [0xAA]
  | .tay => [0xA8]
  | .txa => [0x8A]
  | .tya => [0x98]
  | .tsx => [0xBA]
  | .txs => [0x9A]
  | .pha => [0x48]
  | .php => [0x08]
  | .pla => [0x68]
  | .plp => [0x28]
  | .adcImm v => [0x69, v]
  | .adcZp z => [0x65, z]
  | .adcZpx z => [0x75, z]
  | .adcAbs w => 0x6D :: operand16 w
  | .adcAbx w => 0x7D :: operand16 w
  | .adcAby w => 0x79 :: operand16 w
  | .adcIzx z => [0x61, z]
  | .adcIzy z => [0x71, z]
  | .sbcImm v => [0xE9, v]
  | .sbcZp z => [0xE5, z]
  | .sbcZpx z => [0xF5, z]
  | .sbcAbs w => 0xED :: operand16 w
  | .sbcAbx w => 0xFD :: operand16 w
  | .sbcAby w => 0xF9 :: operand16 w
  | .sbcIzx z => [0xE1, z]
  | .sbcIzy z => [0xF1, z]
  | .cmpImm v => [0xC9, v]
  | .cmpZp z => [0xC5, z]
  | .cmpZpx z => [0xD5, z]
  | .cmpAbs w => 0xCD :: operand16 w
  | .cmpAbx w => 0xDD :: operand16 w
  | .cmpAby w => 0xD9 :: operand16 w
  | .cmpIzx z => [0xC1, z]
  | .cmpIzy z => [0xD1, z]
  | .cpxImm v => [0xE0, v]
  | .cpxZp z => [0xE4, z]
  | .cpxAbs w => 0xEC :: operand16 w
  | .cpyImm v => [0xC0, v]
  | .cpyZp z => [0xC4, z]
  | .cpyAbs w => 0xCC :: operand16 w
  | .andImm v => [0x29, v]
  | .andZp z => [0x25, z]
  | .andZpx z => [0x35, z]
  | .andAbs w => 0x2D :: operand16 w
  | .andAbx w => 0x3D :: operand16 w
  | .andAby w => 0x39 :: operand16 w
  | .andIzx z => [0x21, z]
  | .andIzy z => [0x31, z]
  | .oraImm v => [0x09, v]
  | .oraZp z => [0x05, z]
  | .oraZpx z => [0x15, z]
  | .oraAbs w => 0x0D :: operand16 w
  | .oraAbx w => 0x1D :: operand16 w
  | .oraAby w => 0x19 :: operand16 w
  | .oraIzx z => [0x01, z]
  | .oraIzy z => [0x11, z]
  | .eorImm v => [0x49, v]
  | .eorZp z => [0x45, z]
  | .eorZpx z => [0x55, z]
  | .eorAbs w => 0x4D :: operand16 w
  | .eorAbx w => 0x5D :: operand16 w
  | .eorAby w => 0x59 :: operand16 w
  | .eorIzx z => [0x41, z]
  | .eorIzy z => [0x51, z]
  | .bitZp z => [0x24, z]
  | .bitAbs w => 0x2C :: operand16 w
  | .aslAcc => [0x0A]
  | .aslZp z => [0x06, z]
  | .aslZpx z => [0x16, z]
  | .aslAbs w => 0x0E :: operand16 w
  | .aslAbx w => 0x1E :: operand16 w
  | .lsrAcc => [0x4A]
  | .lsrZp z => [0x46, z]
  | .lsrZpx z => [0x56, z]
  | .lsrAbs w => 0x4E :: operand16 w
  | .lsrAbx w => 0x5E :: operand16 w
  | .rolAcc => [0x2A]
  | .rolZp z => [0x26, z]
  | .rolZpx z => [0x36, z]
  | .rolAbs w => 0x2E :: operand16 w
  | .rolAbx w => 0x3E :: operand16 w
  | .rorAcc => [0x6A]
  | .rorZp z => [0x66, z]
  | .rorZpx z => [0x76, z]
  | .rorAbs w => 0x6E :: operand16 w
  | .rorAbx w => 0x7E :: operand16 w
  | .incZp z => [0xE6, z]
  | .incZpx z => [0xF6, z]
  | .incAbs w => 0xEE :: operand16 w
  | .incAbx w => 0xFE :: operand16 w
  | .decZp z => [0xC6, z]
  | .decZpx z => [0xD6, z]
  | .decAbs w => 0xCE :: operand16 w
  | .decAbx w => 0xDE :: operand16 w
  | .inx => [0xE8]
  | .iny => [0xC8]
  | .dex => [0xCA]
  | .dey => [0x88]
  | .bcc d => [0x90, d]
  | .bcs d => [0xB0, d]
  | .beq d => [0xF0, d]
  | .bne d => [0xD0, d]
  | .bmi d => [0x30, d]
  | .bpl d => [0x10, d]
  | .bvc d => [0x50, d]
  | .bvs d => [0x70, d]
  | .jmpAbs t => 0x4C :: operand16 t
  | .jmpInd p => 0x6C :: operand16 p
  | .jsr t => 0x20 :: operand16 t
  | .rts => [0x60]
  | .rti => [0x40]
  | .brk => [0x00]
  | .clc => [0x18]
  | .sec => [0x38]
  | .cli => [0x58]
  | .sei => [0x78]
  | .cld => [0xD8]
  | .sed => [0xF8]
  | .clv => [0xB8]
  | .nop => [0xEA]
  | .ill op => [op]

end Sys2Proof
end

