-- ==== Sys2Proof/Config.lean ====
section
/-! DEFINITION. The parameters the spec leaves to the implementation or to the environment (R7, R8 and the
table "Open parameters" of 92_eei_decisions.md), and the free values of the model.

A `Config` is a field of the machine's state that no step changes, so a statement about every state is a
statement about every setting of the parameters. -/

namespace Sys2Proof

/-- R7 and R8. Two parameters of the spec are not fields: `DECIMAL_ARITH` is decided false and "not implemented
for true" (D1), and `Render` is the input list `State.answers`. -/
structure Config where
  /-- `ILL_CYCLES`: cycles charged by an undocumented opcode (D2). -/
  illCycles : Nat
  /-- `JMP_IND_PAGE_WRAP`: whether `JMP (ind)` has the page-wrap defect of a real NMOS 6502 (D7). -/
  jmpIndPageWrap : Bool
  /-- `CIA_TIMER_LO`: the address of the low byte of the timer latch (D15). -/
  ciaTimerLo : Word
  /-- `CIA_TIMER_HI`: the address of the high byte of the timer latch (D15). -/
  ciaTimerHi : Word
  /-- `SAMPLE_STRIDE`: buffer positions per sample (D14). -/
  sampleStride : Nat
  /-- `SAMPLE_RATE`: the chip collaborator's output sample rate in samples per second (R8, D26). -/
  sampleRate : Nat
  deriving DecidableEq, Repr

namespace Config

/-- The defaults R7 states. `sampleRate` is OPEN in the spec (R8) and has no default: 44100 is the value of the
source's worked example (DESIGN CHOICE, notes/assumptions/5.md). -/
def default : Config where
  illCycles := 2
  jmpIndPageWrap := false
  ciaTimerLo := 0xDC04
  ciaTimerHi := 0xDC05
  sampleStride := 1
  sampleRate := 44100

/-- The constraints 92_eei_decisions.md puts on the parameters: the timer bytes lie outside the chip window, the
stride and the sample rate are positive. -/
def valid (c : Config) : Bool :=
  (c.ciaTimerLo &&& 0xFC00#16 != 0xD400#16) && (c.ciaTimerHi &&& 0xFC00#16 != 0xD400#16) &&
    decide (0 < c.sampleStride) && decide (0 < c.sampleRate)

/-- FREE VALUE (R8, U4: "a draw (an oracle answer), never a fixed function"). What the chip collaborator answers
to the n-th render request for which the state lists no answer. It has no body: nothing can be proved about its
value but what holds of every value (notes/assumptions/6.md). -/
opaque renderDraw : Nat → Nat

/-- FREE VALUE. What the frame counter becomes when a frame is accounted while the counter is `null`; the spec
states no sum there (R268 says the case does not arise; notes/assumptions/7.md). -/
opaque nullCounterDraw : Nat → Option Nat

end Config

end Sys2Proof
end

