-- ==== Sys2Proof/Machine/State.lean ====
section
/-! DEFINITION. Everything the spec gives the block, as plain data (10_state.md, R41), the commands of its host
port (R260, R249), the transactions of its chip port (R55), and where the block stands inside a command.

The block has two units that take turns (R13): the CPU core, which runs one instruction per step, and the frame
sequencer, which runs one host command at a time to completion. One machine step is one instruction of the core, or
one move of the sequencer between two of them; `Phase` says which comes next. -/

namespace Sys2Proof.Machine

/-- The Memory Image `Mem` (R32): 65536 bytes, as the list of the addresses that hold something else than
`unlistedByte`, in rising order (`Memory.wf`). -/
abbrev Memory := List Host.Cell

/-- What an address that is not listed reads as: "zero-initialized" (R32, R39). -/
def unlistedByte : Byte := 0

/-- A transaction on the chip port (R55). -/
inductive ChipEvent where
  /-- `ChipPoke(reg, val)`: "write to a virtual sound register", `reg` in 0 to 31. -/
  | poke (reg : BitVec 5) (val : Byte)
  /-- `ChipPokeDigi(addr, val)`: "write a sample-replay byte". -/
  | pokeDigi (addr : Word) (val : Byte)
  /-- `ChipRender(count, offset)`: a render request; "only `count` and `off` appear in the event history" (R261). -/
  | render (count offset : Nat)
  deriving DecidableEq, Repr

/-- What the host can ask of the block: the seven commands of the host port (R260), and the four entry points of
the core, which a host that drives the core directly, "a test bench", may call in any order (R249). -/
inductive HostCommand where
  /-- R263. `image` is the 65536-byte Memory Image. -/
  | load (image : Memory) (initAddr playAddr : Word) (startTrack subsongCount speedFlag : Byte)
  /-- R266. `n` is any integer, negative included (D25). -/
  | changeTrack (n : Int)
  /-- R267. -/
  | nextTrack
  /-- R267. -/
  | prevTrack
  /-- R278. -/
  | stop
  /-- R268, R271. -/
  | advanceFrame
  /-- R272 to R277. The buffer is the host's and is not state of the block (R261). -/
  | fill (sampleCount offset : Nat)
  /-- `Step()` called directly (R240, R249). -/
  | coreStep
  /-- `reset()` called directly (R241, R249). -/
  | coreReset
  /-- `resetTo(pc, a)` called directly (R242, R249); the arguments are reduced with `u16` and `u8` (D25). -/
  | coreResetTo (pc a : Int)
  /-- `runSubroutine(entryPC, accumulatorArg)` called directly (R243, R249). -/
  | coreRunSubroutine (entryPC accumulatorArg : Int)
  deriving DecidableEq, Repr

/-- How a command comes back to the host. -/
inductive Reply where
  /-- The command has completed and returns no value. -/
  | completed
  /-- `fill` returns the number of samples written (R277). -/
  | samples (n : Nat)
  /-- `Step` and `runSubroutine`, called directly, return a cycle count (R240, R245). -/
  | cycles (n : Nat)
  deriving DecidableEq, Repr

/-- Who issued the `advanceFrame()` in progress, so what goes on when it is done. -/
inductive FrameCaller where
  /-- The host (R260). -/
  | host
  /-- `changeTrack`, which then sets `ready` (R266). -/
  | changeTrack
  /-- `fill`, which then tests the boundary again (R275). -/
  | fill (remaining total offset : Nat)
  deriving DecidableEq, Repr

/-- Who called the `runSubroutine` in progress, so what goes on when it returns (R249). -/
inductive CallReturn where
  /-- A host that drives the core directly. -/
  | bench
  /-- `load`, for the play vector (R264). -/
  | loadVector
  /-- `changeTrack`: the init routine (R266). -/
  | trackInit
  /-- `advanceFrame`: the play routine (R268). -/
  | play (caller : FrameCaller)
  deriving DecidableEq, Repr

/-- Where the block stands. -/
inductive Phase where
  /-- No command is in progress: the next one is accepted (R260, R332). -/
  | idle
  /-- Inside `runSubroutine` (R244), with the cycles its steps have returned so far. -/
  | call (caller : CallReturn) (total : Nat)
  /-- Inside `fill`, at the boundary test (R273), with `remaining` and `total` of R275. -/
  | filling (remaining total offset : Nat)
  deriving DecidableEq, Repr

/-- Reasons a step stops with a fault. There are none: "The block raises no synchronous exception, trap or fault of
any kind" (R300), every address exists (R50, R60) and no access is ever refused. Safe. -/
inductive Fault where
  deriving DecidableEq, Repr

/-- Reasons a step has no meaning. -/
inductive Refusal where
  /-- Raised by `exec` for an instruction that has no meaning yet. No arm raises it now. Safe. -/
  | notModelled (mnemonic : String)
  /-- Raised by the command `load` when `image` is not 65536 bytes in canonical form: "outside the domain of the
  model's functions" (U9: `refuse`). Safe. -/
  | imageOutsideDomain
  deriving DecidableEq, Repr

/-- The state of the block. -/
structure State where
  /-- `A` (R20). -/
  a : Byte
  /-- `X` (R20). -/
  x : Byte
  /-- `Y` (R20). -/
  y : Byte
  /-- `S` (R21), the stack pointer. -/
  sp : Byte
  /-- `P` (R22), the status register, all eight bits storage (R28). -/
  p : Byte
  /-- `PC` (R23). -/
  pc : Word
  /-- `cyc` (R30), "an unbounded natural number" (D18). -/
  cyc : Nat
  /-- `Mem` (R32). -/
  mem : Memory
  /-- The ordered sequence of chip transactions emitted so far, oldest first (R33, R55). -/
  chip : List ChipEvent
  /-- `loaded` (R36). -/
  loaded : Bool
  /-- `ready` (R34). -/
  ready : Bool
  /-- `finished` (R34). -/
  finished : Bool
  /-- `samplesPerFrame` (R34). -/
  samplesPerFrame : Nat
  /-- `samplesToNextFrame` (R34, R35); `none` is the spec's `null`. -/
  samplesToNextFrame : Option Nat
  /-- `currentTrack` (R34). -/
  currentTrack : Byte
  /-- Whether `currentTrack` has been written since the session was created (R34, R267, D19;
  notes/assumptions/13.md). -/
  trackWritten : Bool
  /-- `subsongCount` (R34). -/
  subsongCount : Byte
  /-- `startTrack` (R36). -/
  startTrack : Byte
  /-- `speedFlag` (R36). -/
  speedFlag : Byte
  /-- `initAddr` (R36). -/
  initAddr : Word
  /-- `playAddr` (R36, R264). -/
  playAddr : Word
  /-- Where the block stands inside the command in progress (R13, R260). -/
  phase : Phase
  /-- INPUT: the commands the host has issued and the block has not yet accepted, oldest first (R260). -/
  commands : List HostCommand
  /-- What has come back to the host so far, one entry a completed command, oldest first (R260). -/
  replies : List Reply
  /-- INPUT: the chip collaborator's answers to the render requests to come, first one first (R8, R261). -/
  answers : List Nat
  /-- The model's own field: how many free values have been drawn (notes/assumptions/6.md). -/
  draws : Nat
  /-- The parameters (R7, R8), which no step changes. -/
  cfg : Config
  deriving DecidableEq, Repr

/-- The block at power-on (R39, R40) after the core's `reset()` (R38, R241).

The spec gives `A`, `X`, `Y`, `P`, `S` and `PC` (the word at `0xFFFC` of a zero memory), `Mem`, `loaded`, `ready` and
`finished`, and that `currentTrack` has not been written. It leaves `cyc` and the other sequencer fields unspecified:
their values here are DESIGN CHOICES (notes/assumptions/1.md). Nothing has been asked of the block yet. -/
def State.reset : State where
  a := 0
  x := 0
  y := 0
  sp := 255
  p := 0
  pc := 0x0000
  cyc := 0
  mem := []
  chip := []
  loaded := false
  ready := false
  finished := false
  samplesPerFrame := 0
  samplesToNextFrame := some 0
  currentTrack := 0
  trackWritten := false
  subsongCount := 0
  startTrack := 0
  speedFlag := 0
  initAddr := 0
  playAddr := 0
  phase := .idle
  commands := []
  replies := []
  answers := []
  draws := 0
  cfg := Config.default

end Sys2Proof.Machine
end

