-- ==== Sys2Proof/Machine/Flags.lean ====
section
/-! DEFINITION. The status register's flags and every flag computation of the spec (R22, R25 to R28, and the flag
lines of files 43 to 45), as functions on bytes. -/

namespace Sys2Proof.Machine

/-- The six named flags of `P`; bits 4 and 5 have no name and no meaning (R22, R28). -/
inductive Flag where
  | n | v | d | i | z | c
  deriving DecidableEq, Repr

/-- "{N=0x80, V=0x40, D=0x08, I=0x04, Z=0x02, C=0x01}" (R22). -/
def Flag.mask : Flag → Byte
  | .n => 0x80
  | .v => 0x40
  | .d => 0x08
  | .i => 0x04
  | .z => 0x02
  | .c => 0x01

/-- `flag(F)` of R11: whether `P & F` is not 0. -/
def flag (f : Flag) (p : Byte) : Bool := (p &&& f.mask) != 0

/-- `setflag(F, b)` of R11: no other bit of `P` changes. -/
def setFlag (f : Flag) (b : Bool) (p : Byte) : Byte :=
  if b then p ||| f.mask else p &&& ~~~f.mask

/-- `SetNZ(v)`, R27. -/
def setNZ (v p : Byte) : Byte := setFlag .n v.msb (setFlag .z (v == 0) p)

/-- The addition `ADC` and `SBC` share, on the operand and on its complement (R160, R161): the exact sum of two
bytes and the carry gives C and the result, the result gives N and Z, and V is the exclusive or of the C and N just
written, "not the textbook signed-overflow formula". D is not consulted (R9). The result byte and the new `P`. -/
def addWithCarry (a m p : Byte) : Byte × Byte :=
  let w := a.toNat + m.toNat + (flag .c p).toNat
  let r : Byte := BitVec.ofNat 8 w
  let p' := setNZ r (setFlag .c (decide (256 ≤ w)) p)
  (r, setFlag .v (flag .c p' != flag .n p') p')

/-- `Compare(reg, M)`, R166: the new `P`. -/
def compareFlags (reg m p : Byte) : Byte :=
  setFlag .c (decide (m.toNat ≤ reg.toNat)) (setNZ (reg - m) p)

/-- The flags of `BIT`, R173: Z from the and, N and V from bits 7 and 6 of the memory byte. -/
def bitFlags (a m p : Byte) : Byte :=
  setFlag .v (m.getLsbD 6) (setFlag .n (m.getLsbD 7) (setFlag .z ((a &&& m) == 0) p))

/-- `ASL` on a byte, R180: result and new `P`. -/
def aslByte (v p : Byte) : Byte × Byte :=
  let r := v <<< 1
  (r, setNZ r (setFlag .c (v.getLsbD 7) p))

/-- `LSR` on a byte, R181: result and new `P`. -/
def lsrByte (v p : Byte) : Byte × Byte :=
  let r := v >>> 1
  (r, setNZ r (setFlag .c (v.getLsbD 0) p))

/-- `ROL` on a byte, R182: the old C enters at bit 0, the old bit 7 leaves into C. -/
def rolByte (v p : Byte) : Byte × Byte :=
  let r := (v <<< 1) ||| (if flag .c p then 1 else 0)
  (r, setNZ r (setFlag .c (v.getLsbD 7) p))

/-- `ROR` on a byte, R183: the old C enters at bit 7, the old bit 0 leaves into C. -/
def rorByte (v p : Byte) : Byte × Byte :=
  let r := (v >>> 1) ||| (if flag .c p then 0x80 else 0)
  (r, setNZ r (setFlag .c (v.getLsbD 0) p))

/-- `INC` on a byte, R184: C and V unchanged. -/
def incByte (v p : Byte) : Byte × Byte := (v + 1, setNZ (v + 1) p)

/-- `DEC` on a byte, R185: C and V unchanged. -/
def decByte (v p : Byte) : Byte × Byte := (v - 1, setNZ (v - 1) p)

end Sys2Proof.Machine
end

