-- ==== Sys2Proof/Machine/Ops.lean ====
section
/-! DEFINITION. The named operations over memory, registers and the stack that every meaning is written with
(20_memory.md, 42_stack.md, and the reset entry points of 48_run_subroutine.md).

TAKING AN EXCEPTION is not among them, because the block has none: no trap, fault or interrupt, no saved state, no
vector table and no return sequence (R300, R302, R304 to R306). `BRK` only sets `PC` to 0 and `RTI` is an `RTS`
(Control.lean). -/

namespace Sys2Proof.Machine

/-- What every meaning answers. -/
abbrev Out := Host.Outcome State Fault Refusal

/-! ### The Memory Image -/

/-- The byte at an address. -/
def Memory.read : Memory → Nat → Byte
  | [], _ => unlistedByte
  | (k, v) :: rest, a => if k = a then v else Memory.read rest a

/-- The memory with one byte replaced, in canonical form again. -/
def Memory.write : Memory → Nat → Byte → Memory
  | [], a, b => if b = unlistedByte then [] else [(a, b)]
  | (k, v) :: rest, a, b =>
    if a < k then (if b = unlistedByte then (k, v) :: rest else (a, b) :: (k, v) :: rest)
    else if a = k then (if b = unlistedByte then rest else (a, b) :: rest)
    else (k, v) :: Memory.write rest a b

/-- Canonical form from address `lo` up. -/
def Memory.wfFrom (lo : Nat) : Memory → Bool
  | [] => true
  | (k, v) :: rest =>
    decide (lo ≤ k) && decide (k < 65536) && (v != unlistedByte) && Memory.wfFrom (k + 1) rest

/-- The canonical form: addresses strictly rising and below 65536 (R50), and no entry equal to what an unlisted
address reads as. -/
def Memory.wf (m : Memory) : Bool := Memory.wfFrom 0 m

/-! ### One register, one field -/

/-- `A <- v`. -/
def State.setA (v : Byte) (s : State) : State := { s with a := v }

/-- `X <- v`. -/
def State.setX (v : Byte) (s : State) : State := { s with x := v }

/-- `Y <- v`. -/
def State.setY (v : Byte) (s : State) : State := { s with y := v }

/-- `S <- v`. -/
def State.setSp (v : Byte) (s : State) : State := { s with sp := v }

/-- `P <- v`. -/
def State.setP (v : Byte) (s : State) : State := { s with p := v }

/-- `PC <- v`. -/
def State.setPc (v : Word) (s : State) : State := { s with pc := v }

/-- `Mem` replaced. -/
def State.setMem (m : Memory) (s : State) : State := { s with mem := m }

/-- Transactions emitted on the chip port, in order (R55). -/
def State.emit (es : List ChipEvent) (s : State) : State := { s with chip := s.chip ++ es }

/-- What the fetch of an instruction of `len` bytes leaves (R23: `PC` is the address of the next sequential
instruction) and the charge of its cycles (R240). -/
def State.advance (len cycles : Nat) (s : State) : State :=
  { s with pc := s.pc + BitVec.ofNat 16 len, cyc := cycles }

/-- A flag of the state. -/
def State.flag (f : Flag) (s : State) : Bool := Machine.flag f s.p

/-! ### Read path and write path -/

/-- `MemRead(addr, 1)`, R52: no side effect, and the chip is not consulted. -/
def memRead (s : State) (addr : Word) : Byte := Memory.read s.mem addr.toNat

/-- The 16-bit quantity whose low byte is at `lo` and high byte at `hi`. -/
def memRead16 (s : State) (lo hi : Word) : Word := joinBytes (memRead s hi) (memRead s lo)

/-- The chip register window, R53 and R54. -/
def inChipWindow (addr : Word) : Bool := (addr &&& 0xFC00) == 0xD400

/-- What a write into the window emits, R53: `ChipPoke(a & 0x1F, b)`, then `ChipPokeDigi(a, b)` above `0xD418`. -/
def chipWrite (addr : Word) (b : Byte) : List ChipEvent :=
  if 0xD418 < addr then [.poke (addr.setWidth 5) b, .pokeDigi addr b] else [.poke (addr.setWidth 5) b]

/-- `MemWrite(addr, 1, b)`, R53: every write of the block goes through this path. -/
def memWrite (addr : Word) (b : Byte) (s : State) : State :=
  if inChipWindow addr then s.emit (chipWrite addr b) else s.setMem (Memory.write s.mem addr.toNat b)

/-! ### Stack primitives -/

/-- The address `S` names: `0x0100 + S` (R21). -/
def stackAddr (sp : Byte) : Word := 0x0100 + sp.setWidth 16

/-- Where `Push` leaves `S` (R150): clamped at 0. -/
def spDown (sp : Byte) : Byte := if sp = 0 then 0 else sp - 1

/-- Where `Pop` leaves `S` (R151): clamped at 255. -/
def spUp (sp : Byte) : Byte := if sp = 255 then 255 else sp + 1

/-- `Push(v)`, R150: the byte is written before the pointer moves. -/
def push (v : Byte) (s : State) : State := (memWrite (stackAddr s.sp) v s).setSp (spDown s.sp)

/-- The byte `Pop()` returns, R151: read after the pointer has moved. -/
def popValue (s : State) : Byte := memRead s (stackAddr (spUp s.sp))

/-- The state `Pop()` leaves, R151. -/
def pop (s : State) : State := s.setSp (spUp s.sp)

/-- The return address plus one, of `RTS` and `RTI` (R212, R213): low byte popped first. -/
def popReturn (s : State) : Word := joinBytes (popValue (pop s)) (popValue s) + 1

/-! ### The reset entry points of the core -/

/-- `reset()`, R241 and R38. -/
def coreReset (s : State) : State :=
  { s with a := 0, x := 0, y := 0, p := 0, sp := 255, pc := memRead16 s 0xFFFC 0xFFFD }

/-- `resetTo(pc, a)`, R242. -/
def coreResetTo (pc : Word) (a : Byte) (s : State) : State :=
  { s with a := a, x := 0, y := 0, p := 0, sp := 255, pc := pc }

/-- The set-up phase of `runSubroutine(entryPC, accumulatorArg)`, R243: "pushes two sentinel bytes". -/
def enterSubroutine (entry : Word) (a : Byte) (s : State) : State :=
  (push 0 (push 0 (coreResetTo entry a s))).setPc entry

end Sys2Proof.Machine
end

