-- ==== Sys2Proof/Machine/Operands.lean ====
section
/-! DEFINITION. Every operand form (40_addressing_modes.md): the effective address and page crossing of each
memory mode, and the three access functions `GetOperand`, `PutOperand` and read-modify-write.

The operand bytes are in the instruction (Decode.lean has fetched them), so an effective address is a function of
them and of the state before the instruction (R122: steps 2 to 5 read memory as it was before the instruction). -/

namespace Sys2Proof.Machine

/-- What `EA(mode)` returns (40_addressing_modes.md section 2). -/
structure EffAddr where
  addr : Word
  crossed : Bool
  deriving DecidableEq, Repr

/-- A zero-page address as a 16-bit one (R82). -/
def zeroPage (z : Byte) : Word := z.setWidth 16

/-- The pointer of `izx` and `izy`: low byte at `z`, high byte at `u8(z + 1)` (R111, R112). -/
def zeroPagePointer (z : Byte) (s : State) : Word := memRead16 s (zeroPage z) (zeroPage (z + 1))

/-- `base + index`, with the page-cross test of R115: "+1 if high byte changes". -/
def indexed (base : Word) (index : Byte) : EffAddr :=
  let ea := base + index.setWidth 16
  { addr := ea, crossed := highByte ea != highByte base }

/-- `EA(mode)`, R105 to R112. -/
def effAddr (m : MemMode) (s : State) : EffAddr :=
  match m with
  | .zp z => { addr := zeroPage z, crossed := false }
  | .zpx z => { addr := zeroPage (z + s.x), crossed := false }
  | .zpy z => { addr := zeroPage (z + s.y), crossed := false }
  | .abs w => { addr := w, crossed := false }
  | .abx w => indexed w s.x
  | .aby w => indexed w s.y
  | .izx z => { addr := zeroPagePointer (z + s.x) s, crossed := false }
  | .izy z => indexed (zeroPagePointer z s) s.y

/-- The value of `GetOperand(mode)`, R118. -/
def operand (m : ReadMode) (s : State) : Byte :=
  match m with
  | .imm v => v
  | .mem m => memRead s (effAddr m s).addr

/-- The page-cross penalty of a read-class instruction, R116: `crossed` is false in the modes not marked `+`. -/
def penalty (m : ReadMode) (s : State) : Nat :=
  match m with
  | .imm _ => 0
  | .mem m => (effAddr m s).crossed.toNat

/-- The fetch and the charge of a read-class instruction whose base count is `base`. -/
def readAdvance (m : ReadMode) (base : Nat) (s : State) : State := s.advance m.length (base + penalty m s)

/-- `PutOperand(mode, v)`, R119, with the fetch and the charge of a store-class instruction. -/
def putOperand (m : MemMode) (base : Nat) (v : Byte) (s : State) : State :=
  memWrite (effAddr m s).addr v (s.advance m.length base)

/-- `RMW(mode, f)`, R120: one read, one write to the same place; `f` makes the result and the new `P` from the old
value and the old `P`. -/
def rmw (m : RmwMode) (base : Nat) (f : Byte → Byte → Byte × Byte) (s : State) : State :=
  match m with
  | .acc => ((s.advance 1 base).setA (f s.a s.p).1).setP (f s.a s.p).2
  | .mem m =>
    let ea := (effAddr m s).addr
    let r := f (memRead s ea) s.p
    (memWrite ea r.1 (s.advance m.length base)).setP r.2

/-- The target of `JMP (ind)`, R114: the high byte comes from the next address, or from the same page where the
parameter `JMP_IND_PAGE_WRAP` is true. -/
def indirectTarget (ptr : Word) (s : State) : Word :=
  memRead16 s ptr (if s.cfg.jmpIndPageWrap then joinBytes (highByte ptr) (lowByte ptr + 1) else ptr + 1)

end Sys2Proof.Machine
end

