-- ==== Sys2Proof/Machine/Arith.lean ====
section
/-! DEFINITION. Arithmetic and compare instructions (43_arithmetic_compare.md): for each mnemonic the operation its rule gives,
and for each row of the opcode table the meaning of that row, with the base cycle count R85 prints for it. -/

namespace Sys2Proof.Machine

/-- `ADC`, R160: `A + M + flag(C)`. -/
def adcOp (m : ReadMode) (base : Nat) (s : State) : State :=
  let r := addWithCarry s.a (operand m s) s.p
  ((readAdvance m base s).setA r.1).setP r.2

/-- `ADC #v`, 0x69/2 of R85. -/
def execAdcImm (v : Byte) (s : State) : Out := .next (adcOp (.imm v) 2 s)

/-- `ADC z`, 0x65/3 of R85. -/
def execAdcZp (z : Byte) (s : State) : Out := .next (adcOp (.mem (.zp z)) 3 s)

/-- `ADC z,X`, 0x75/4 of R85. -/
def execAdcZpx (z : Byte) (s : State) : Out := .next (adcOp (.mem (.zpx z)) 4 s)

/-- `ADC w`, 0x6D/4 of R85. -/
def execAdcAbs (w : Word) (s : State) : Out := .next (adcOp (.mem (.abs w)) 4 s)

/-- `ADC w,X`, 0x7D/4+ of R85. -/
def execAdcAbx (w : Word) (s : State) : Out := .next (adcOp (.mem (.abx w)) 4 s)

/-- `ADC w,Y`, 0x79/4+ of R85. -/
def execAdcAby (w : Word) (s : State) : Out := .next (adcOp (.mem (.aby w)) 4 s)

/-- `ADC (z,X)`, 0x61/6 of R85. -/
def execAdcIzx (z : Byte) (s : State) : Out := .next (adcOp (.mem (.izx z)) 6 s)

/-- `ADC (z),Y`, 0x71/5+ of R85. -/
def execAdcIzy (z : Byte) (s : State) : Out := .next (adcOp (.mem (.izy z)) 5 s)

/-- `SBC`, R161: `A + (M ^ 0xFF) + flag(C)`. -/
def sbcOp (m : ReadMode) (base : Nat) (s : State) : State :=
  let r := addWithCarry s.a (operand m s ^^^ 0xFF) s.p
  ((readAdvance m base s).setA r.1).setP r.2

/-- `SBC #v`, 0xE9/2 of R85. -/
def execSbcImm (v : Byte) (s : State) : Out := .next (sbcOp (.imm v) 2 s)

/-- `SBC z`, 0xE5/3 of R85. -/
def execSbcZp (z : Byte) (s : State) : Out := .next (sbcOp (.mem (.zp z)) 3 s)

/-- `SBC z,X`, 0xF5/4 of R85. -/
def execSbcZpx (z : Byte) (s : State) : Out := .next (sbcOp (.mem (.zpx z)) 4 s)

/-- `SBC w`, 0xED/4 of R85. -/
def execSbcAbs (w : Word) (s : State) : Out := .next (sbcOp (.mem (.abs w)) 4 s)

/-- `SBC w,X`, 0xFD/4+ of R85. -/
def execSbcAbx (w : Word) (s : State) : Out := .next (sbcOp (.mem (.abx w)) 4 s)

/-- `SBC w,Y`, 0xF9/4+ of R85. -/
def execSbcAby (w : Word) (s : State) : Out := .next (sbcOp (.mem (.aby w)) 4 s)

/-- `SBC (z,X)`, 0xE1/6 of R85. -/
def execSbcIzx (z : Byte) (s : State) : Out := .next (sbcOp (.mem (.izx z)) 6 s)

/-- `SBC (z),Y`, 0xF1/5+ of R85. -/
def execSbcIzy (z : Byte) (s : State) : Out := .next (sbcOp (.mem (.izy z)) 5 s)

/-- `CMP`, R162: `Compare(A, M)`. -/
def cmpOp (m : ReadMode) (base : Nat) (s : State) : State :=
  (readAdvance m base s).setP (compareFlags s.a (operand m s) s.p)

/-- `CMP #v`, 0xC9/2 of R85. -/
def execCmpImm (v : Byte) (s : State) : Out := .next (cmpOp (.imm v) 2 s)

/-- `CMP z`, 0xC5/3 of R85. -/
def execCmpZp (z : Byte) (s : State) : Out := .next (cmpOp (.mem (.zp z)) 3 s)

/-- `CMP z,X`, 0xD5/4 of R85. -/
def execCmpZpx (z : Byte) (s : State) : Out := .next (cmpOp (.mem (.zpx z)) 4 s)

/-- `CMP w`, 0xCD/4 of R85. -/
def execCmpAbs (w : Word) (s : State) : Out := .next (cmpOp (.mem (.abs w)) 4 s)

/-- `CMP w,X`, 0xDD/4+ of R85. -/
def execCmpAbx (w : Word) (s : State) : Out := .next (cmpOp (.mem (.abx w)) 4 s)

/-- `CMP w,Y`, 0xD9/4+ of R85. -/
def execCmpAby (w : Word) (s : State) : Out := .next (cmpOp (.mem (.aby w)) 4 s)

/-- `CMP (z,X)`, 0xC1/6 of R85. -/
def execCmpIzx (z : Byte) (s : State) : Out := .next (cmpOp (.mem (.izx z)) 6 s)

/-- `CMP (z),Y`, 0xD1/5+ of R85. -/
def execCmpIzy (z : Byte) (s : State) : Out := .next (cmpOp (.mem (.izy z)) 5 s)

/-- `CPX`, R163: `Compare(X, M)`. -/
def cpxOp (m : ReadMode) (base : Nat) (s : State) : State :=
  (readAdvance m base s).setP (compareFlags s.x (operand m s) s.p)

/-- `CPX #v`, 0xE0/2 of R85. -/
def execCpxImm (v : Byte) (s : State) : Out := .next (cpxOp (.imm v) 2 s)

/-- `CPX z`, 0xE4/3 of R85. -/
def execCpxZp (z : Byte) (s : State) : Out := .next (cpxOp (.mem (.zp z)) 3 s)

/-- `CPX w`, 0xEC/4 of R85. -/
def execCpxAbs (w : Word) (s : State) : Out := .next (cpxOp (.mem (.abs w)) 4 s)

/-- `CPY`, R164: `Compare(Y, M)`. -/
def cpyOp (m : ReadMode) (base : Nat) (s : State) : State :=
  (readAdvance m base s).setP (compareFlags s.y (operand m s) s.p)

/-- `CPY #v`, 0xC0/2 of R85. -/
def execCpyImm (v : Byte) (s : State) : Out := .next (cpyOp (.imm v) 2 s)

/-- `CPY z`, 0xC4/3 of R85. -/
def execCpyZp (z : Byte) (s : State) : Out := .next (cpyOp (.mem (.zp z)) 3 s)

/-- `CPY w`, 0xCC/4 of R85. -/
def execCpyAbs (w : Word) (s : State) : Out := .next (cpyOp (.mem (.abs w)) 4 s)

end Sys2Proof.Machine
end

