-- ==== Sys2Proof/Machine/Control.lean ====
section
/-! DEFINITION. Branch, jump, call and return instructions (46_control_transfer.md): for each mnemonic the operation its rule gives,
and for each row of the opcode table the meaning of that row, with the base cycle count R85 prints for it. -/

namespace Sys2Proof.Machine

/-- `Branch(cond)`, R200: 2 cycles not taken, 3 taken to the page of the next sequential instruction, 4 taken to
another page; the target is the next instruction's address plus the signed displacement (R113). -/
def branch (cond : Bool) (d : Byte) (s : State) : State :=
  let next := s.pc + 2
  let target := next + d.signExtend 16
  if cond then (s.advance 2 (if highByte target != highByte next then 4 else 3)).setPc target
  else s.advance 2 2

/-- `BCC *+d`, 0x90/2* of R85; branch if carry clear, R201. -/
def execBcc (d : Byte) (s : State) : Out := .next (branch (!s.flag .c) d s)

/-- `BCS *+d`, 0xB0/2* of R85; branch if carry set, R202. -/
def execBcs (d : Byte) (s : State) : Out := .next (branch (s.flag .c) d s)

/-- `BEQ *+d`, 0xF0/2* of R85; branch if Z set, R203. -/
def execBeq (d : Byte) (s : State) : Out := .next (branch (s.flag .z) d s)

/-- `BNE *+d`, 0xD0/2* of R85; branch if Z clear, R204. -/
def execBne (d : Byte) (s : State) : Out := .next (branch (!s.flag .z) d s)

/-- `BMI *+d`, 0x30/2* of R85; branch if N set, R205. -/
def execBmi (d : Byte) (s : State) : Out := .next (branch (s.flag .n) d s)

/-- `BPL *+d`, 0x10/2* of R85; branch if N clear, R206. -/
def execBpl (d : Byte) (s : State) : Out := .next (branch (!s.flag .n) d s)

/-- `BVC *+d`, 0x50/2* of R85; branch if V clear, R207. -/
def execBvc (d : Byte) (s : State) : Out := .next (branch (!s.flag .v) d s)

/-- `BVS *+d`, 0x70/2* of R85; branch if V set, R208. -/
def execBvs (d : Byte) (s : State) : Out := .next (branch (s.flag .v) d s)

/-- `JMP`, R209. -/
def jmpOp (t : Word) (s : State) : State := (s.advance 3 3).setPc t

/-- `JMP (ind)`, R209 and R114. -/
def jmpIndOp (p : Word) (s : State) : State := (s.advance 3 5).setPc (indirectTarget p s)

/-- `JMP w`, 0x4C/3 of R85. -/
def execJmpAbs (t : Word) (s : State) : Out := .next (jmpOp t s)

/-- `JMP (p)`, 0x6C/5 of R85. -/
def execJmpInd (p : Word) (s : State) : Out := .next (jmpIndOp p s)

/-- `JSR`, R211: pushes the address of its own last byte, high byte first, after both operand bytes have been
fetched. -/
def jsrOp (t : Word) (s : State) : State :=
  let r := s.pc + 2
  (push (lowByte r) (push (highByte r) (s.advance 3 6))).setPc t

/-- `JSR w`, 0x20/6 of R85. -/
def execJsr (t : Word) (s : State) : Out := .next (jsrOp t s)

/-- `RTS`, R212: "pop 16-bit address, `PC = value+1`". -/
def rtsOp (s : State) : State := (pop (pop (s.advance 1 6))).setPc (popReturn s)

/-- `RTS`, 0x60/6 of R85. -/
def execRts (s : State) : Out := .next (rtsOp s)

/-- `RTI`, R213: "treated identically to `RTS`"; `P` is not restored. -/
def rtiOp (s : State) : State := (pop (pop (s.advance 1 6))).setPc (popReturn s)

/-- `RTI`, 0x40/6 of R85. -/
def execRti (s : State) : Out := .next (rtiOp s)

/-- `BRK`, R214: `PC <- 0x0000` and nothing else. -/
def brkOp (s : State) : State := (s.advance 1 7).setPc 0x0000

/-- `BRK`, 0x00/7 of R85. -/
def execBrk (s : State) : Out := .next (brkOp s)

end Sys2Proof.Machine
end

