-- ==== Sys2Proof/Machine/FlagNop.lean ====
section
/-! DEFINITION. Flag instructions, NOP and undocumented opcodes (47_flag_nop_illegal.md): for each mnemonic the operation its rule gives,
and for each row of the opcode table the meaning of that row, with the base cycle count R85 prints for it. -/

namespace Sys2Proof.Machine

/-- `CLC`, R220: `setflag(C, 0)`. -/
def clcOp (s : State) : State := (s.advance 1 2).setP (setFlag .c false s.p)

/-- `CLC`, 0x18/2 of R85. -/
def execClc (s : State) : Out := .next (clcOp s)

/-- `SEC`, R221: `setflag(C, 1)`. -/
def secOp (s : State) : State := (s.advance 1 2).setP (setFlag .c true s.p)

/-- `SEC`, 0x38/2 of R85. -/
def execSec (s : State) : Out := .next (secOp s)

/-- `CLI`, R222: `setflag(I, 0)`. -/
def cliOp (s : State) : State := (s.advance 1 2).setP (setFlag .i false s.p)

/-- `CLI`, 0x58/2 of R85. -/
def execCli (s : State) : Out := .next (cliOp s)

/-- `SEI`, R223: `setflag(I, 1)`. -/
def seiOp (s : State) : State := (s.advance 1 2).setP (setFlag .i true s.p)

/-- `SEI`, 0x78/2 of R85. -/
def execSei (s : State) : Out := .next (seiOp s)

/-- `CLD`, R224: `setflag(D, 0)`. -/
def cldOp (s : State) : State := (s.advance 1 2).setP (setFlag .d false s.p)

/-- `CLD`, 0xD8/2 of R85. -/
def execCld (s : State) : Out := .next (cldOp s)

/-- `SED`, R225: `setflag(D, 1)`. -/
def sedOp (s : State) : State := (s.advance 1 2).setP (setFlag .d true s.p)

/-- `SED`, 0xF8/2 of R85. -/
def execSed (s : State) : Out := .next (sedOp s)

/-- `CLV`, R226: `setflag(V, 0)`. -/
def clvOp (s : State) : State := (s.advance 1 2).setP (setFlag .v false s.p)

/-- `CLV`, 0xB8/2 of R85. -/
def execClv (s : State) : Out := .next (clvOp s)

/-- `NOP`, R227: nothing beyond the opcode fetch. -/
def nopOp (s : State) : State := s.advance 1 2

/-- `NOP`, 0xEA/2 of R85. -/
def execNop (s : State) : Out := .next (nopOp s)

/-- An undocumented opcode, R228: a one-byte no-op that charges `ILL_CYCLES` (D2). -/
def illOp (s : State) : State := s.advance 1 s.cfg.illCycles

/-- Any of the 105 undocumented bytes (R87), alike. -/
def execIll (_op : Byte) (s : State) : Out := .next (illOp s)

end Sys2Proof.Machine
end

