-- ==== Sys2Proof/Machine/LoadStore.lean ====
section
/-! DEFINITION. Load, store and register-transfer instructions (41_load_store_transfer.md): for each mnemonic the operation its rule gives,
and for each row of the opcode table the meaning of that row, with the base cycle count R85 prints for it. -/

namespace Sys2Proof.Machine

/-- `LDA`, R130: `v <- GetOperand(mode); A <- v; SetNZ(v)`. -/
def ldaOp (m : ReadMode) (base : Nat) (s : State) : State :=
  ((readAdvance m base s).setA (operand m s)).setP (setNZ (operand m s) s.p)

/-- `LDA #v`, 0xA9/2 of R85. -/
def execLdaImm (v : Byte) (s : State) : Out := .next (ldaOp (.imm v) 2 s)

/-- `LDA z`, 0xA5/3 of R85. -/
def execLdaZp (z : Byte) (s : State) : Out := .next (ldaOp (.mem (.zp z)) 3 s)

/-- `LDA z,X`, 0xB5/4 of R85. -/
def execLdaZpx (z : Byte) (s : State) : Out := .next (ldaOp (.mem (.zpx z)) 4 s)

/-- `LDA w`, 0xAD/4 of R85. -/
def execLdaAbs (w : Word) (s : State) : Out := .next (ldaOp (.mem (.abs w)) 4 s)

/-- `LDA w,X`, 0xBD/4+ of R85. -/
def execLdaAbx (w : Word) (s : State) : Out := .next (ldaOp (.mem (.abx w)) 4 s)

/-- `LDA w,Y`, 0xB9/4+ of R85. -/
def execLdaAby (w : Word) (s : State) : Out := .next (ldaOp (.mem (.aby w)) 4 s)

/-- `LDA (z,X)`, 0xA1/6 of R85. -/
def execLdaIzx (z : Byte) (s : State) : Out := .next (ldaOp (.mem (.izx z)) 6 s)

/-- `LDA (z),Y`, 0xB1/5+ of R85. -/
def execLdaIzy (z : Byte) (s : State) : Out := .next (ldaOp (.mem (.izy z)) 5 s)

/-- `LDX`, R131: `v <- GetOperand(mode); X <- v; SetNZ(v)`. -/
def ldxOp (m : ReadMode) (base : Nat) (s : State) : State :=
  ((readAdvance m base s).setX (operand m s)).setP (setNZ (operand m s) s.p)

/-- `LDX #v`, 0xA2/2 of R85. -/
def execLdxImm (v : Byte) (s : State) : Out := .next (ldxOp (.imm v) 2 s)

/-- `LDX z`, 0xA6/3 of R85. -/
def execLdxZp (z : Byte) (s : State) : Out := .next (ldxOp (.mem (.zp z)) 3 s)

/-- `LDX z,Y`, 0xB6/4 of R85. -/
def execLdxZpy (z : Byte) (s : State) : Out := .next (ldxOp (.mem (.zpy z)) 4 s)

/-- `LDX w`, 0xAE/4 of R85. -/
def execLdxAbs (w : Word) (s : State) : Out := .next (ldxOp (.mem (.abs w)) 4 s)

/-- `LDX w,Y`, 0xBE/4+ of R85. -/
def execLdxAby (w : Word) (s : State) : Out := .next (ldxOp (.mem (.aby w)) 4 s)

/-- `LDY`, R132: `v <- GetOperand(mode); Y <- v; SetNZ(v)`. -/
def ldyOp (m : ReadMode) (base : Nat) (s : State) : State :=
  ((readAdvance m base s).setY (operand m s)).setP (setNZ (operand m s) s.p)

/-- `LDY #v`, 0xA0/2 of R85. -/
def execLdyImm (v : Byte) (s : State) : Out := .next (ldyOp (.imm v) 2 s)

/-- `LDY z`, 0xA4/3 of R85. -/
def execLdyZp (z : Byte) (s : State) : Out := .next (ldyOp (.mem (.zp z)) 3 s)

/-- `LDY z,X`, 0xB4/4 of R85. -/
def execLdyZpx (z : Byte) (s : State) : Out := .next (ldyOp (.mem (.zpx z)) 4 s)

/-- `LDY w`, 0xAC/4 of R85. -/
def execLdyAbs (w : Word) (s : State) : Out := .next (ldyOp (.mem (.abs w)) 4 s)

/-- `LDY w,X`, 0xBC/4+ of R85. -/
def execLdyAbx (w : Word) (s : State) : Out := .next (ldyOp (.mem (.abx w)) 4 s)

/-- `STA`, R133: `PutOperand(mode, A)`. -/
def staOp (m : MemMode) (base : Nat) (s : State) : State := putOperand m base s.a s

/-- `STA z`, 0x85/3 of R85. -/
def execStaZp (z : Byte) (s : State) : Out := .next (staOp (.zp z) 3 s)

/-- `STA z,X`, 0x95/4 of R85. -/
def execStaZpx (z : Byte) (s : State) : Out := .next (staOp (.zpx z) 4 s)

/-- `STA w`, 0x8D/4 of R85. -/
def execStaAbs (w : Word) (s : State) : Out := .next (staOp (.abs w) 4 s)

/-- `STA w,X`, 0x9D/5 of R85. -/
def execStaAbx (w : Word) (s : State) : Out := .next (staOp (.abx w) 5 s)

/-- `STA w,Y`, 0x99/5 of R85. -/
def execStaAby (w : Word) (s : State) : Out := .next (staOp (.aby w) 5 s)

/-- `STA (z,X)`, 0x81/6 of R85. -/
def execStaIzx (z : Byte) (s : State) : Out := .next (staOp (.izx z) 6 s)

/-- `STA (z),Y`, 0x91/6 of R85. -/
def execStaIzy (z : Byte) (s : State) : Out := .next (staOp (.izy z) 6 s)

/-- `STX`, R134: `PutOperand(mode, X)`. -/
def stxOp (m : MemMode) (base : Nat) (s : State) : State := putOperand m base s.x s

/-- `STX z`, 0x86/3 of R85. -/
def execStxZp (z : Byte) (s : State) : Out := .next (stxOp (.zp z) 3 s)

/-- `STX z,Y`, 0x96/4 of R85. -/
def execStxZpy (z : Byte) (s : State) : Out := .next (stxOp (.zpy z) 4 s)

/-- `STX w`, 0x8E/4 of R85. -/
def execStxAbs (w : Word) (s : State) : Out := .next (stxOp (.abs w) 4 s)

/-- `STY`, R135: `PutOperand(mode, Y)`. -/
def styOp (m : MemMode) (base : Nat) (s : State) : State := putOperand m base s.y s

/-- `STY z`, 0x84/3 of R85. -/
def execStyZp (z : Byte) (s : State) : Out := .next (styOp (.zp z) 3 s)

/-- `STY z,X`, 0x94/4 of R85. -/
def execStyZpx (z : Byte) (s : State) : Out := .next (styOp (.zpx z) 4 s)

/-- `STY w`, 0x8C/4 of R85. -/
def execStyAbs (w : Word) (s : State) : Out := .next (styOp (.abs w) 4 s)

/-- `TAX`, R136: `X <- A; SetNZ(X)`. -/
def taxOp (s : State) : State := ((s.advance 1 2).setX s.a).setP (setNZ s.a s.p)

/-- `TAX`, 0xAA/2 of R85. -/
def execTax (s : State) : Out := .next (taxOp s)

/-- `TAY`, R137: `Y <- A; SetNZ(Y)`. -/
def tayOp (s : State) : State := ((s.advance 1 2).setY s.a).setP (setNZ s.a s.p)

/-- `TAY`, 0xA8/2 of R85. -/
def execTay (s : State) : Out := .next (tayOp s)

/-- `TXA`, R138: `A <- X; SetNZ(A)`. -/
def txaOp (s : State) : State := ((s.advance 1 2).setA s.x).setP (setNZ s.x s.p)

/-- `TXA`, 0x8A/2 of R85. -/
def execTxa (s : State) : Out := .next (txaOp s)

/-- `TYA`, R139: `A <- Y; SetNZ(A)`. -/
def tyaOp (s : State) : State := ((s.advance 1 2).setA s.y).setP (setNZ s.y s.p)

/-- `TYA`, 0x98/2 of R85. -/
def execTya (s : State) : Out := .next (tyaOp s)

/-- `TSX`, R140: `X <- S; SetNZ(X)`. -/
def tsxOp (s : State) : State := ((s.advance 1 2).setX s.sp).setP (setNZ s.sp s.p)

/-- `TSX`, 0xBA/2 of R85. -/
def execTsx (s : State) : Out := .next (tsxOp s)

/-- `TXS`, R141: `S <- X`, no flag. -/
def txsOp (s : State) : State := (s.advance 1 2).setSp s.x

/-- `TXS`, 0x9A/2 of R85. -/
def execTxs (s : State) : Out := .next (txsOp s)

end Sys2Proof.Machine
end

