-- ==== Sys2Proof/Machine/Logic.lean ====
section
/-! DEFINITION. Logical and bit-test instructions (44_logic_bit.md): for each mnemonic the operation its rule gives,
and for each row of the opcode table the meaning of that row, with the base cycle count R85 prints for it. -/

namespace Sys2Proof.Machine

/-- `AND`, R170: `A <- A & M; SetNZ(A)`. -/
def andOp (m : ReadMode) (base : Nat) (s : State) : State :=
  ((readAdvance m base s).setA (s.a &&& operand m s)).setP (setNZ (s.a &&& operand m s) s.p)

/-- `AND #v`, 0x29/2 of R85. -/
def execAndImm (v : Byte) (s : State) : Out := .next (andOp (.imm v) 2 s)

/-- `AND z`, 0x25/3 of R85. -/
def execAndZp (z : Byte) (s : State) : Out := .next (andOp (.mem (.zp z)) 3 s)

/-- `AND z,X`, 0x35/4 of R85. -/
def execAndZpx (z : Byte) (s : State) : Out := .next (andOp (.mem (.zpx z)) 4 s)

/-- `AND w`, 0x2D/4 of R85. -/
def execAndAbs (w : Word) (s : State) : Out := .next (andOp (.mem (.abs w)) 4 s)

/-- `AND w,X`, 0x3D/4+ of R85. -/
def execAndAbx (w : Word) (s : State) : Out := .next (andOp (.mem (.abx w)) 4 s)

/-- `AND w,Y`, 0x39/4+ of R85. -/
def execAndAby (w : Word) (s : State) : Out := .next (andOp (.mem (.aby w)) 4 s)

/-- `AND (z,X)`, 0x21/6 of R85. -/
def execAndIzx (z : Byte) (s : State) : Out := .next (andOp (.mem (.izx z)) 6 s)

/-- `AND (z),Y`, 0x31/5+ of R85. -/
def execAndIzy (z : Byte) (s : State) : Out := .next (andOp (.mem (.izy z)) 5 s)

/-- `ORA`, R171: `A <- A | M; SetNZ(A)`. -/
def oraOp (m : ReadMode) (base : Nat) (s : State) : State :=
  ((readAdvance m base s).setA (s.a ||| operand m s)).setP (setNZ (s.a ||| operand m s) s.p)

/-- `ORA #v`, 0x09/2 of R85. -/
def execOraImm (v : Byte) (s : State) : Out := .next (oraOp (.imm v) 2 s)

/-- `ORA z`, 0x05/3 of R85. -/
def execOraZp (z : Byte) (s : State) : Out := .next (oraOp (.mem (.zp z)) 3 s)

/-- `ORA z,X`, 0x15/4 of R85. -/
def execOraZpx (z : Byte) (s : State) : Out := .next (oraOp (.mem (.zpx z)) 4 s)

/-- `ORA w`, 0x0D/4 of R85. -/
def execOraAbs (w : Word) (s : State) : Out := .next (oraOp (.mem (.abs w)) 4 s)

/-- `ORA w,X`, 0x1D/4+ of R85. -/
def execOraAbx (w : Word) (s : State) : Out := .next (oraOp (.mem (.abx w)) 4 s)

/-- `ORA w,Y`, 0x19/4+ of R85. -/
def execOraAby (w : Word) (s : State) : Out := .next (oraOp (.mem (.aby w)) 4 s)

/-- `ORA (z,X)`, 0x01/6 of R85. -/
def execOraIzx (z : Byte) (s : State) : Out := .next (oraOp (.mem (.izx z)) 6 s)

/-- `ORA (z),Y`, 0x11/5+ of R85. -/
def execOraIzy (z : Byte) (s : State) : Out := .next (oraOp (.mem (.izy z)) 5 s)

/-- `EOR`, R172: `A <- A ^ M; SetNZ(A)`. -/
def eorOp (m : ReadMode) (base : Nat) (s : State) : State :=
  ((readAdvance m base s).setA (s.a ^^^ operand m s)).setP (setNZ (s.a ^^^ operand m s) s.p)

/-- `EOR #v`, 0x49/2 of R85. -/
def execEorImm (v : Byte) (s : State) : Out := .next (eorOp (.imm v) 2 s)

/-- `EOR z`, 0x45/3 of R85. -/
def execEorZp (z : Byte) (s : State) : Out := .next (eorOp (.mem (.zp z)) 3 s)

/-- `EOR z,X`, 0x55/4 of R85. -/
def execEorZpx (z : Byte) (s : State) : Out := .next (eorOp (.mem (.zpx z)) 4 s)

/-- `EOR w`, 0x4D/4 of R85. -/
def execEorAbs (w : Word) (s : State) : Out := .next (eorOp (.mem (.abs w)) 4 s)

/-- `EOR w,X`, 0x5D/4+ of R85. -/
def execEorAbx (w : Word) (s : State) : Out := .next (eorOp (.mem (.abx w)) 4 s)

/-- `EOR w,Y`, 0x59/4+ of R85. -/
def execEorAby (w : Word) (s : State) : Out := .next (eorOp (.mem (.aby w)) 4 s)

/-- `EOR (z,X)`, 0x41/6 of R85. -/
def execEorIzx (z : Byte) (s : State) : Out := .next (eorOp (.mem (.izx z)) 6 s)

/-- `EOR (z),Y`, 0x51/5+ of R85. -/
def execEorIzy (z : Byte) (s : State) : Out := .next (eorOp (.mem (.izy z)) 5 s)

/-- `BIT`, R173: flags only. -/
def bitOp (m : ReadMode) (base : Nat) (s : State) : State :=
  (readAdvance m base s).setP (bitFlags s.a (operand m s) s.p)

/-- `BIT z`, 0x24/3 of R85. -/
def execBitZp (z : Byte) (s : State) : Out := .next (bitOp (.mem (.zp z)) 3 s)

/-- `BIT w`, 0x2C/4 of R85. -/
def execBitAbs (w : Word) (s : State) : Out := .next (bitOp (.mem (.abs w)) 4 s)

end Sys2Proof.Machine
end

