-- ==== Sys2Proof/Machine/ShiftIncDec.lean ====
section
/-! DEFINITION. Shift, rotate, increment and decrement instructions (45_shift_incdec.md): for each mnemonic the operation its rule gives,
and for each row of the opcode table the meaning of that row, with the base cycle count R85 prints for it. -/

namespace Sys2Proof.Machine

/-- `ASL`, R180. -/
def aslOp (m : RmwMode) (base : Nat) (s : State) : State := rmw m base aslByte s

/-- `ASL A`, 0x0A/2 of R85. -/
def execAslAcc (s : State) : Out := .next (aslOp .acc 2 s)

/-- `ASL z`, 0x06/5 of R85. -/
def execAslZp (z : Byte) (s : State) : Out := .next (aslOp (.mem (.zp z)) 5 s)

/-- `ASL z,X`, 0x16/6 of R85. -/
def execAslZpx (z : Byte) (s : State) : Out := .next (aslOp (.mem (.zpx z)) 6 s)

/-- `ASL w`, 0x0E/6 of R85. -/
def execAslAbs (w : Word) (s : State) : Out := .next (aslOp (.mem (.abs w)) 6 s)

/-- `ASL w,X`, 0x1E/7 of R85. -/
def execAslAbx (w : Word) (s : State) : Out := .next (aslOp (.mem (.abx w)) 7 s)

/-- `LSR`, R181. -/
def lsrOp (m : RmwMode) (base : Nat) (s : State) : State := rmw m base lsrByte s

/-- `LSR A`, 0x4A/2 of R85. -/
def execLsrAcc (s : State) : Out := .next (lsrOp .acc 2 s)

/-- `LSR z`, 0x46/5 of R85. -/
def execLsrZp (z : Byte) (s : State) : Out := .next (lsrOp (.mem (.zp z)) 5 s)

/-- `LSR z,X`, 0x56/6 of R85. -/
def execLsrZpx (z : Byte) (s : State) : Out := .next (lsrOp (.mem (.zpx z)) 6 s)

/-- `LSR w`, 0x4E/6 of R85. -/
def execLsrAbs (w : Word) (s : State) : Out := .next (lsrOp (.mem (.abs w)) 6 s)

/-- `LSR w,X`, 0x5E/7 of R85. -/
def execLsrAbx (w : Word) (s : State) : Out := .next (lsrOp (.mem (.abx w)) 7 s)

/-- `ROL`, R182. -/
def rolOp (m : RmwMode) (base : Nat) (s : State) : State := rmw m base rolByte s

/-- `ROL A`, 0x2A/2 of R85. -/
def execRolAcc (s : State) : Out := .next (rolOp .acc 2 s)

/-- `ROL z`, 0x26/5 of R85. -/
def execRolZp (z : Byte) (s : State) : Out := .next (rolOp (.mem (.zp z)) 5 s)

/-- `ROL z,X`, 0x36/6 of R85. -/
def execRolZpx (z : Byte) (s : State) : Out := .next (rolOp (.mem (.zpx z)) 6 s)

/-- `ROL w`, 0x2E/6 of R85. -/
def execRolAbs (w : Word) (s : State) : Out := .next (rolOp (.mem (.abs w)) 6 s)

/-- `ROL w,X`, 0x3E/7 of R85. -/
def execRolAbx (w : Word) (s : State) : Out := .next (rolOp (.mem (.abx w)) 7 s)

/-- `ROR`, R183. -/
def rorOp (m : RmwMode) (base : Nat) (s : State) : State := rmw m base rorByte s

/-- `ROR A`, 0x6A/2 of R85. -/
def execRorAcc (s : State) : Out := .next (rorOp .acc 2 s)

/-- `ROR z`, 0x66/5 of R85. -/
def execRorZp (z : Byte) (s : State) : Out := .next (rorOp (.mem (.zp z)) 5 s)

/-- `ROR z,X`, 0x76/6 of R85. -/
def execRorZpx (z : Byte) (s : State) : Out := .next (rorOp (.mem (.zpx z)) 6 s)

/-- `ROR w`, 0x6E/6 of R85. -/
def execRorAbs (w : Word) (s : State) : Out := .next (rorOp (.mem (.abs w)) 6 s)

/-- `ROR w,X`, 0x7E/7 of R85. -/
def execRorAbx (w : Word) (s : State) : Out := .next (rorOp (.mem (.abx w)) 7 s)

/-- `INC`, R184. -/
def incOp (m : RmwMode) (base : Nat) (s : State) : State := rmw m base incByte s

/-- `INC z`, 0xE6/5 of R85. -/
def execIncZp (z : Byte) (s : State) : Out := .next (incOp (.mem (.zp z)) 5 s)

/-- `INC z,X`, 0xF6/6 of R85. -/
def execIncZpx (z : Byte) (s : State) : Out := .next (incOp (.mem (.zpx z)) 6 s)

/-- `INC w`, 0xEE/6 of R85. -/
def execIncAbs (w : Word) (s : State) : Out := .next (incOp (.mem (.abs w)) 6 s)

/-- `INC w,X`, 0xFE/7 of R85. -/
def execIncAbx (w : Word) (s : State) : Out := .next (incOp (.mem (.abx w)) 7 s)

/-- `DEC`, R185. -/
def decOp (m : RmwMode) (base : Nat) (s : State) : State := rmw m base decByte s

/-- `DEC z`, 0xC6/5 of R85. -/
def execDecZp (z : Byte) (s : State) : Out := .next (decOp (.mem (.zp z)) 5 s)

/-- `DEC z,X`, 0xD6/6 of R85. -/
def execDecZpx (z : Byte) (s : State) : Out := .next (decOp (.mem (.zpx z)) 6 s)

/-- `DEC w`, 0xCE/6 of R85. -/
def execDecAbs (w : Word) (s : State) : Out := .next (decOp (.mem (.abs w)) 6 s)

/-- `DEC w,X`, 0xDE/7 of R85. -/
def execDecAbx (w : Word) (s : State) : Out := .next (decOp (.mem (.abx w)) 7 s)

/-- `INX`, R186: `X <- u8(X + 1); SetNZ(X)`. -/
def inxOp (s : State) : State :=
  ((s.advance 1 2).setX (incByte s.x s.p).1).setP (incByte s.x s.p).2

/-- `INX`, 0xE8/2 of R85. -/
def execInx (s : State) : Out := .next (inxOp s)

/-- `INY`, R187: `Y <- u8(Y + 1); SetNZ(Y)`. -/
def inyOp (s : State) : State :=
  ((s.advance 1 2).setY (incByte s.y s.p).1).setP (incByte s.y s.p).2

/-- `INY`, 0xC8/2 of R85. -/
def execIny (s : State) : Out := .next (inyOp s)

/-- `DEX`, R188: `X <- u8(X - 1); SetNZ(X)`. -/
def dexOp (s : State) : State :=
  ((s.advance 1 2).setX (decByte s.x s.p).1).setP (decByte s.x s.p).2

/-- `DEX`, 0xCA/2 of R85. -/
def execDex (s : State) : Out := .next (dexOp s)

/-- `DEY`, R189: `Y <- u8(Y - 1); SetNZ(Y)`. -/
def deyOp (s : State) : State :=
  ((s.advance 1 2).setY (decByte s.y s.p).1).setP (decByte s.y s.p).2

/-- `DEY`, 0x88/2 of R85. -/
def execDey (s : State) : Out := .next (deyOp s)

end Sys2Proof.Machine
end

