-- ==== Sys2Proof/Machine/Stack.lean ====
section
/-! DEFINITION. Stack instructions (42_stack.md): for each mnemonic the operation its rule gives,
and for each row of the opcode table the meaning of that row, with the base cycle count R85 prints for it. -/

namespace Sys2Proof.Machine

/-- `PHA`, R152: `Push(A)`. -/
def phaOp (s : State) : State := push s.a (s.advance 1 3)

/-- `PHA`, 0x48/3 of R85. -/
def execPha (s : State) : Out := .next (phaOp s)

/-- `PHP`, R153: `Push(P)`, all eight bits as they stand. -/
def phpOp (s : State) : State := push s.p (s.advance 1 3)

/-- `PHP`, 0x08/3 of R85. -/
def execPhp (s : State) : Out := .next (phpOp s)

/-- `PLA`, R154: `A <- Pop(); SetNZ(A)`. -/
def plaOp (s : State) : State :=
  ((pop (s.advance 1 4)).setA (popValue s)).setP (setNZ (popValue s) s.p)

/-- `PLA`, 0x68/4 of R85. -/
def execPla (s : State) : Out := .next (plaOp s)

/-- `PLP`, R155: `P <- Pop()`, all eight bits. -/
def plpOp (s : State) : State := (pop (s.advance 1 4)).setP (popValue s)

/-- `PLP`, 0x28/4 of R85. -/
def execPlp (s : State) : Out := .next (plpOp s)

end Sys2Proof.Machine
end

