-- ==== Sys2Proof/Machine/Sequencer.lean ====
section
/-! DEFINITION. Fetching and running one instruction (`Step`, R240), the loop of `runSubroutine` (R244, R245), and
the frame sequencer with its seven commands (49_playback_scheduler.md).

A command of the spec calls `runSubroutine`, which runs an unbounded number of instructions (R246), so a command is
cut where it calls: `startCall` enters the routine and leaves in `Phase.call` what goes on when it returns, and
`resume` goes on from there. -/

namespace Sys2Proof.Machine

/-! ### One instruction -/

/-- The instruction at `PC`: its bytes are read through the ordinary read path at the moment they are needed (R65),
and `PC` wraps (R23, R84). The bytes after a short instruction are looked at and ignored, which nothing can observe,
since reads have no side effects (R59). -/
def fetch (s : State) : Instr := decodeInstr (memRead s s.pc) (memRead s (s.pc + 1)) (memRead s (s.pc + 2))

/-- `Step()`, R240: exactly one instruction. Its cycle cost is left in `cyc`. -/
def coreStep (s : State) : Out := exec (fetch s) s

/-! ### Commands and their parts -/

/-- The command in progress completes and the block is ready for the next one (R260). -/
def finish (r : Reply) (s : State) : State := { s with phase := .idle, replies := s.replies ++ [r] }

/-- `runSubroutine(entry, a)` is called; `caller` goes on when it returns (R243). -/
def startCall (caller : CallReturn) (entry : Word) (a : Byte) (s : State) : State :=
  { enterSubroutine entry a s with phase := .call caller 0 }

/-- `advanceFrame()` is done (R266, R268, R275). -/
def frameDone (caller : FrameCaller) (s : State) : State :=
  match caller with
  | .host => finish .completed s
  | .changeTrack => finish .completed { s with ready := true }
  | .fill remaining total offset => { s with phase := .filling remaining total offset }

/-- The terminal branch of `advanceFrame()`, R271: 25 writes through the write path in ascending order. -/
def terminalFrame (s : State) : State :=
  { (List.range 25).foldl (fun t k => memWrite (0xD400 + BitVec.ofNat 16 k) 0 t) s with
    samplesToNextFrame := none
    finished := true }

/-- `advanceFrame()` up to its call of the play routine (R268, R271, R284). -/
def advanceFrame (caller : FrameCaller) (s : State) : State :=
  if s.loaded = false then frameDone caller s
  else if s.finished = false then startCall (.play caller) s.playAddr 0 s
  else frameDone caller (terminalFrame s)

/-- `frameUS` of R269, in microseconds. -/
def frameMicros (timerValue : Nat) (speedFlag : Byte) : Nat :=
  let us := 20000 * timerValue / 0x4C00
  if us = 0 ∨ speedFlag = 0 then 20000 else us

/-- `samplesPerFrame` of R269. -/
def frameSamples (sampleRate micros : Nat) : Nat := sampleRate * micros / 1000000

/-- The timer latch, R270: two plain bytes of `Mem`. -/
def timerValue (s : State) : Nat := (memRead16 s s.cfg.ciaTimerLo s.cfg.ciaTimerHi).toNat

/-- The samples of the frame that begins now. -/
def nextFrameSamples (s : State) : Nat :=
  frameSamples s.cfg.sampleRate (frameMicros (timerValue s) s.speedFlag)

/-- `advanceFrame()` after its call of the play routine, R268: "Accumulate `samplesToNextFrame += samplesPerFrame`".
Where the counter is `null` the spec states no sum, and a free value is drawn (notes/assumptions/7.md). -/
def accountFrame (s : State) : State :=
  match s.samplesToNextFrame with
  | some k => { s with samplesPerFrame := nextFrameSamples s, samplesToNextFrame := some (k + nextFrameSamples s) }
  | none => { s with
      samplesPerFrame := nextFrameSamples s
      samplesToNextFrame := Config.nullCounterDraw s.draws
      draws := s.draws + 1 }

/-- `changeTrack(n)` up to its call of the init routine (R266, R284). -/
def changeTrack (n : Int) (s : State) : State :=
  if s.loaded = false then finish .completed s
  else if n < 0 ∨ (s.subsongCount.toNat : Int) < n then finish .completed s
  else startCall .trackInit s.initAddr (BitVec.ofInt 8 n)
    { coreReset { s with ready := false } with currentTrack := BitVec.ofInt 8 n, trackWritten := true }

/-- `changeTrack(n)` after the init routine (R266). -/
def trackInitDone (s : State) : State :=
  advanceFrame .changeTrack { s with finished := false, samplesToNextFrame := some 0 }

/-- `nextTrack()` and `prevTrack()`, R267: `changeTrack(currentTrack + d)`, the sum taken as an integer; no effect if
`currentTrack` has never been written in this session (D19, notes/assumptions/13.md). -/
def stepTrack (d : Int) (s : State) : State :=
  if s.trackWritten then changeTrack (s.currentTrack.toNat + d) s else finish .completed s

/-- The end of `load`, R263 and R265: the initial volume, then the start track. -/
def loadTail (s : State) : State := changeTrack s.startTrack.toNat (memWrite 0xD418 15 s)

/-- `load(...)`, R263, up to its optional call of the init routine (R264). The counters and `currentTrack` keep their
values; that a track of this session has been selected is not true yet (R34, R285 (d); notes/assumptions/13.md). -/
def load (image : Memory) (initAddr playAddr : Word) (startTrack subsongCount speedFlag : Byte) (s : State) : State :=
  let t := { s with
    mem := image
    initAddr := initAddr
    playAddr := playAddr
    startTrack := startTrack
    subsongCount := subsongCount
    speedFlag := speedFlag
    loaded := true
    ready := false
    finished := false
    trackWritten := false }
  if playAddr = 0 then startCall .loadVector initAddr 0 t else loadTail t

/-- `load` after its call of the init routine, R264: the play address from the vector mirror. -/
def loadVectorDone (s : State) : State := loadTail { s with playAddr := memRead16 s 0x0314 0x0315 }

/-- `stop()`, R278. -/
def stop (s : State) : State := finish .completed { s with ready := false }

/-- The collaborator's answer to the next render request for `count` samples: the input the state lists, else a free
value; "0 <= actual <= count and otherwise unconstrained" (R261). -/
def renderAnswer (count : Nat) (s : State) : Nat :=
  match s.answers with
  | g :: _ => min g count
  | [] => min (Config.renderDraw s.draws) count

/-- `ChipRender(count, offset)`, R55 and R261: the transaction is recorded and an answer used up. -/
def emitRender (count offset : Nat) (s : State) : State :=
  let t := s.emit [.render count offset]
  match s.answers with
  | _ :: rest => { t with answers := rest }
  | [] => { t with draws := s.draws + 1 }

/-- `fill` starts, R272: on a session that is not ready it "returns 0 immediately (no side effects)". -/
def fill (sampleCount offset : Nat) (s : State) : State :=
  if s.ready = false then finish (.samples 0) s else { s with phase := .filling sampleCount 0 offset }

/-- A boundary segment of `fill`, R274: `k` samples to the boundary. A request for 0 samples is not sent (D12). -/
def boundarySegment (k remaining total offset : Nat) (s : State) : State :=
  if k = 0 then advanceFrame (.fill remaining total offset) s
  else
    let g := renderAnswer k s
    advanceFrame (.fill (remaining - g) (total + g) offset)
      { emitRender k (offset + total * s.cfg.sampleStride) s with samplesToNextFrame := some (k - g) }

/-- The end of `fill`, R277: a total of 0 ends the stream. -/
def fillDone (total : Nat) (s : State) : State :=
  if total = 0 then finish (.samples total) { s with ready := false, finished := true }
  else finish (.samples total) s

/-- The final segment of `fill`, R276. -/
def finalSegment (remaining total offset : Nat) (s : State) : State :=
  if remaining = 0 then fillDone total s
  else
    let g := renderAnswer remaining s
    fillDone (total + g)
      { emitRender remaining (offset + total * s.cfg.sampleStride) s with
        samplesToNextFrame := s.samplesToNextFrame.map (· - g) }

/-- One turn of the loop of `fill`: the boundary test of R273, "Equality counts", and the segment it selects. -/
def fillTurn (remaining total offset : Nat) (s : State) : State :=
  match s.samplesToNextFrame with
  | some k => if k ≤ remaining then boundarySegment k remaining total offset s else finalSegment remaining total offset s
  | none => finalSegment remaining total offset s

/-! ### The machine -/

/-- `runSubroutine` has returned `total` cycles (R245) to its caller. Only a host that called it directly sees the
count: the sequencer discards it (R31). -/
def resume (caller : CallReturn) (total : Nat) (s : State) : State :=
  match caller with
  | .bench => finish (.cycles total) s
  | .loadVector => loadVectorDone s
  | .trackInit => trackInitDone s
  | .play frameCaller => frameDone frameCaller (accountFrame s)

/-- The block accepts a command. -/
def accept (c : HostCommand) (s : State) : Out :=
  match c with
  | .load image initAddr playAddr startTrack subsongCount speedFlag =>
    if Memory.wf image then .next (load image initAddr playAddr startTrack subsongCount speedFlag s)
    else .refused .imageOutsideDomain
  | .changeTrack n => .next (changeTrack n s)
  | .nextTrack => .next (stepTrack 1 s)
  | .prevTrack => .next (stepTrack (-1) s)
  | .stop => .next (stop s)
  | .advanceFrame => .next (advanceFrame .host s)
  | .fill sampleCount offset => .next (fill sampleCount offset s)
  | .coreStep =>
    match coreStep s with
    | .next t => .next (finish (.cycles t.cyc) t)
    | .fault r => .fault r
    | .refused r => .refused r
  | .coreReset => .next (finish .completed (coreReset s))
  | .coreResetTo pc a => .next (finish .completed (coreResetTo (BitVec.ofInt 16 pc) (BitVec.ofInt 8 a) s))
  | .coreRunSubroutine entryPC a => .next (startCall .bench (BitVec.ofInt 16 entryPC) (BitVec.ofInt 8 a) s)

/-- One turn of the loop of `runSubroutine`, R244: the test of `PC` comes before the instruction (D4). -/
def callTurn (caller : CallReturn) (total : Nat) (s : State) : Out :=
  if s.pc ≤ 1 then .next (resume caller total s)
  else
    match coreStep s with
    | .next t => .next { t with phase := .call caller (total + t.cyc) }
    | .fault r => .fault r
    | .refused r => .refused r

/-- One move of the block. With no command in progress and none issued nothing happens: "The core never runs on its
own" (R249). -/
def machineStep (s : State) : Out :=
  match s.phase with
  | .idle =>
    match s.commands with
    | [] => .next s
    | c :: rest => accept c { s with commands := rest }
  | .call caller total => callTurn caller total s
  | .filling remaining total offset => .next (fillTurn remaining total offset s)

/-- The three bytes of an instruction word stored from address `pc` up, straight into `Mem`. -/
def storeWord (nbits w : Nat) (pc : Word) (m : Memory) : Memory :=
  Memory.write (Memory.write (Memory.write m pc.toNat (wordByte (w % 2 ^ nbits) 0))
    (pc + 1).toNat (wordByte (w % 2 ^ nbits) 1)) (pc + 2).toNat (wordByte (w % 2 ^ nbits) 2)

/-- The state with an instruction word stored at `PC` and `Step()` as the command that comes next. -/
def placeWord (nbits w : Nat) (s : State) : State :=
  { s with mem := storeWord nbits w s.pc s.mem, phase := .idle, commands := .coreStep :: s.commands }

end Sys2Proof.Machine
end

