-- ==== Sys2Proof/Machine/Step.lean ====
section
/-! DEFINITION. The machine's step, and the state whose next step fetches and runs a given instruction. -/

namespace Sys2Proof.Machine

/-- One move of the block: one instruction of the core, or one move of the frame sequencer (R13, R240, R260). -/
def step (s : State) : Host.Outcome State Fault Refusal := machineStep s

/-- `s` with an instruction word stored where the core fetches, and the core asked to `Step()` (R249): the very next
step runs that instruction and no other. The program counter stays as it is. -/
def State.withFetchWord (s : State) (nbits w : Nat) : State := placeWord nbits w s

end Sys2Proof.Machine
end

