-- ==== Sys2Proof/Safety.lean ====
section
/-! DEFINITION. The terms claims are stated in: which part of the state is the core's, what a safe state of the
frame sequencer is, and the cycle costs as the source's per-mode table composes them (R117). Nothing here is part of
the machine. -/

namespace Sys2Proof

/-- The mnemonic of a row. -/
def Form.mnemonic : Form → Mnemonic
  | .implied mn => mn
  | .read mn _ => mn
  | .store mn _ => mn
  | .rmw mn _ => mn
  | .branch mn _ => mn
  | .absTarget mn _ => mn
  | .indTarget mn _ => mn

/-- The mnemonic of an instruction, as the opcode table spells it. -/
def Instr.mnemonic (i : Instr) : Mnemonic := i.form.mnemonic

/-! ### Cycle costs by mode

Machine/<Family>.lean takes the count of each row from R85; here they are composed from the source's own table of
addressing modes, as R117 says the two agree. -/

/-- The "base cycles" column of the source's mode table (R117). -/
def MemMode.modeCycles : MemMode → Nat
  | .zp _ => 3
  | .zpx _ => 4
  | .zpy _ => 4
  | .abs _ => 4
  | .abx _ => 4
  | .aby _ => 4
  | .izx _ => 6
  | .izy _ => 5

/-- Read-class: the mode cost "+0" (R117). -/
def ReadMode.cycles : ReadMode → Nat
  | .imm _ => 2
  | .mem m => m.modeCycles

/-- Store-class: "+0 in `zp`, `zpx`, `zpy`, `abs`, `izx` and +1 with no penalty in `abx`, `aby`, `izy`" (R117). -/
def MemMode.storeCycles : MemMode → Nat
  | .abx w => (MemMode.abx w).modeCycles + 1
  | .aby w => (MemMode.aby w).modeCycles + 1
  | .izy z => (MemMode.izy z).modeCycles + 1
  | .zp z => (MemMode.zp z).modeCycles
  | .zpx z => (MemMode.zpx z).modeCycles
  | .zpy z => (MemMode.zpy z).modeCycles
  | .abs w => (MemMode.abs w).modeCycles
  | .izx z => (MemMode.izx z).modeCycles

/-- RMW-class: "+2 in `zp`, `zpx`, `abs`, +3 with no penalty in `abx`, +0 in `acc`" (R117); the other modes have no
RMW row. -/
def RmwMode.cycles : RmwMode → Nat
  | .acc => 2
  | .mem (.abx w) => (MemMode.abx w).modeCycles + 3
  | .mem (.zp z) => (MemMode.zp z).modeCycles + 2
  | .mem (.zpx z) => (MemMode.zpx z).modeCycles + 2
  | .mem (.zpy z) => (MemMode.zpy z).modeCycles + 2
  | .mem (.abs w) => (MemMode.abs w).modeCycles + 2
  | .mem (.aby w) => (MemMode.aby w).modeCycles + 3
  | .mem (.izx z) => (MemMode.izx z).modeCycles + 2
  | .mem (.izy z) => (MemMode.izy z).modeCycles + 3

namespace Machine

/-! ### What the core owns -/

/-- `t` is `s` but for what an instruction may change: the registers, `cyc`, `Mem` and the transactions emitted
(R240). -/
def SameOutsideCore (s t : State) : Prop :=
  t = { s with
    a := t.a, x := t.x, y := t.y, sp := t.sp, p := t.p, pc := t.pc, cyc := t.cyc, mem := t.mem, chip := t.chip }

/-- Two states an instruction cannot tell apart (R240: "the registers and `Mem` alone"), with the same parameters. -/
def SameCore (s t : State) : Prop :=
  t.a = s.a ∧ t.x = s.x ∧ t.y = s.y ∧ t.sp = s.sp ∧ t.p = s.p ∧ t.pc = s.pc ∧ t.mem = s.mem ∧ t.cfg = s.cfg

/-- Whether the next thing the block does is to accept a `load`. -/
def State.acceptsLoad (s : State) : Bool :=
  match s.phase, s.commands with
  | .idle, .load _ _ _ _ _ _ :: _ => true
  | _, _ => false

/-! ### A safe sequencer -/

/-- What holds of a session that is playing (R285 (a) to (d), R262). -/
def State.playable (s : State) : Prop :=
  s.loaded = true ∧ s.finished = false ∧ s.samplesToNextFrame ≠ none ∧ s.trackWritten = true ∧
    s.currentTrack ≤ s.subsongCount

/-- What holds where the block stands inside a command. -/
def Phase.inv (ph : Phase) (s : State) : Prop :=
  match ph with
  | .idle => True
  | .filling _ _ _ => s.ready = true
  | .call .bench _ => True
  | .call .loadVector _ => s.loaded = true ∧ s.ready = false ∧ s.finished = false
  | .call .trackInit _ =>
    s.loaded = true ∧ s.ready = false ∧ s.trackWritten = true ∧ s.currentTrack ≤ s.subsongCount
  | .call (.play .host) _ => s.loaded = true ∧ s.finished = false
  | .call (.play .changeTrack) _ => s.ready = false ∧ s.playable
  | .call (.play (.fill _ _ _)) _ => s.ready = true

/-- The sequencer invariant (R285). -/
structure SequencerInv (s : State) : Prop where
  /-- A ready session is playable (R285 (a), (c)). -/
  ready_playable : s.ready = true → s.playable
  /-- A ready session's counter is at least 1 while no command of the sequencer is in progress, unless its last frame
  had no samples (R285 (c)). -/
  ready_counter_pos : s.ready = true → (s.phase = .idle ∨ ∃ total, s.phase = .call .bench total) →
    s.samplesToNextFrame = some 0 → s.samplesPerFrame = 0
  /-- Once written, the current track is in range (R285 (d)). -/
  track_in_range : s.trackWritten = true → s.currentTrack ≤ s.subsongCount
  /-- A null counter means that the session is finished (R285 (b)), but for the null of a session before that R263 makes
  `load` keep: until the init routine of the first track has returned (notes/assumptions/14.md). -/
  null_finished : s.samplesToNextFrame = none →
    s.finished = true ∨ s.trackWritten = false ∨ ∃ total, s.phase = .call .trackInit total
  /-- The command in progress is where its own flags say. -/
  phase_inv : s.phase.inv s

/-- The memory invariant: `Mem` is in canonical form. -/
def MemoryInv (s : State) : Prop := Memory.wf s.mem = true

end Machine

end Sys2Proof
end

