-- ==== Sys2Proof/Certificates/Slice0/Obligations.lean ====
section
/-! DEFINITION. What is claimed of the model, statement by statement, from the numbered rules of spec/. -/

open Sys2Proof Sys2Proof.Machine

/-! ### Terms the statements use -/

namespace Sys2Proof.Claims

/-- The base cycle counts printed in R85, by opcode byte; 0 stands where the table has no entry. -/
def baseCycles : List Nat :=
  [7, 6, 0, 0, 0, 3, 5, 0, 3, 2, 2, 0, 0, 4, 6, 0] ++
  [2, 5, 0, 0, 0, 4, 6, 0, 2, 4, 0, 0, 0, 4, 7, 0] ++
  [6, 6, 0, 0, 3, 3, 5, 0, 4, 2, 2, 0, 4, 4, 6, 0] ++
  [2, 5, 0, 0, 0, 4, 6, 0, 2, 4, 0, 0, 0, 4, 7, 0] ++
  [6, 6, 0, 0, 0, 3, 5, 0, 3, 2, 2, 0, 3, 4, 6, 0] ++
  [2, 5, 0, 0, 0, 4, 6, 0, 2, 4, 0, 0, 0, 4, 7, 0] ++
  [6, 6, 0, 0, 0, 3, 5, 0, 4, 2, 2, 0, 5, 4, 6, 0] ++
  [2, 5, 0, 0, 0, 4, 6, 0, 2, 4, 0, 0, 0, 4, 7, 0] ++
  [0, 6, 0, 0, 3, 3, 3, 0, 2, 0, 2, 0, 4, 4, 4, 0] ++
  [2, 6, 0, 0, 4, 4, 4, 0, 2, 5, 2, 0, 0, 5, 0, 0] ++
  [2, 6, 2, 0, 3, 3, 3, 0, 2, 2, 2, 0, 4, 4, 4, 0] ++
  [2, 5, 0, 0, 4, 4, 4, 0, 2, 4, 2, 0, 4, 4, 4, 0] ++
  [2, 6, 0, 0, 3, 3, 5, 0, 2, 2, 2, 0, 4, 4, 6, 0] ++
  [2, 5, 0, 0, 0, 4, 6, 0, 2, 4, 0, 0, 0, 4, 7, 0] ++
  [2, 6, 0, 0, 3, 3, 5, 0, 2, 2, 2, 0, 4, 4, 6, 0] ++
  [2, 5, 0, 0, 0, 4, 6, 0, 2, 4, 0, 0, 0, 4, 7, 0]

/-- Which instructions write each bit of `P`, as R25 lists them ("every mention is exhaustive"): bit 7 N, 6 V, 3 D,
2 I, 1 Z, 0 C; bits 4 and 5 are written by `PLP` alone (R28). -/
def flagWriters : Nat → List Mnemonic
  | 7 => [.LDA, .LDX, .LDY, .TAX, .TAY, .TXA, .TYA, .TSX, .PLA, .ADC, .SBC, .AND, .ORA, .EOR, .ASL, .LSR, .ROL, .ROR,
      .INC, .DEC, .INX, .INY, .DEX, .DEY, .CMP, .CPX, .CPY, .BIT, .PLP]
  | 6 => [.ADC, .SBC, .BIT, .CLV, .PLP]
  | 3 => [.SED, .CLD, .PLP]
  | 2 => [.SEI, .CLI, .PLP]
  | 1 => [.LDA, .LDX, .LDY, .TAX, .TAY, .TXA, .TYA, .TSX, .PLA, .ADC, .SBC, .AND, .ORA, .EOR, .ASL, .LSR, .ROL, .ROR,
      .INC, .DEC, .INX, .INY, .DEX, .DEY, .CMP, .CPX, .CPY, .BIT, .PLP]
  | 0 => [.ADC, .SBC, .ASL, .LSR, .ROL, .ROR, .CMP, .CPX, .CPY, .CLC, .SEC, .PLP]
  | _ => [.PLP]

/-- The instructions that may leave `PC` elsewhere than after themselves (R23). -/
def controlTransfers : List Mnemonic :=
  [.BCC, .BCS, .BEQ, .BNE, .BMI, .BPL, .BVC, .BVS, .JMP, .JSR, .RTS, .RTI, .BRK]

/-- The condition of each branch, on the bits of `P` (R201 to R208). -/
def branchTaken (mn : Mnemonic) (p : Byte) : Option Bool :=
  match mn with
  | .BCC => some (!p.getLsbD 0)
  | .BCS => some (p.getLsbD 0)
  | .BEQ => some (p.getLsbD 1)
  | .BNE => some (!p.getLsbD 1)
  | .BMI => some (p.getLsbD 7)
  | .BPL => some (!p.getLsbD 7)
  | .BVC => some (!p.getLsbD 6)
  | .BVS => some (p.getLsbD 6)
  | _ => none

/-- The result of a read-modify-write instruction on the value `v` with the incoming carry `c`, in integers (R180 to
R185). -/
def rmwResult (mn : Mnemonic) (v c : Nat) : Option Nat :=
  match mn with
  | .ASL => some (2 * v % 256)
  | .LSR => some (v / 2)
  | .ROL => some ((2 * v + c) % 256)
  | .ROR => some (v / 2 + 128 * c)
  | .INC => some ((v + 1) % 256)
  | .DEC => some ((v + 255) % 256)
  | _ => none

/-- The carry it leaves: the bit that moved out, or the incoming one. -/
def rmwCarry (mn : Mnemonic) (v : Nat) (c : Bool) : Bool :=
  match mn with
  | .ASL => decide (128 ≤ v)
  | .ROL => decide (128 ≤ v)
  | .LSR => decide (v % 2 = 1)
  | .ROR => decide (v % 2 = 1)
  | _ => c

/-- The register a store-class instruction stores (R133 to R135). -/
def storedRegister (mn : Mnemonic) (s : State) : Option Byte :=
  match mn with
  | .STA => some s.a
  | .STX => some s.x
  | .STY => some s.y
  | _ => none

/-- The register a compare compares with (R162 to R164). -/
def comparedRegister (mn : Mnemonic) (s : State) : Option Byte :=
  match mn with
  | .CMP => some s.a
  | .CPX => some s.x
  | .CPY => some s.y
  | _ => none

/-- `t` is `s` after one byte `b` was written at `ea` through the write path, as reads and transactions show it: no
other byte has changed; outside the chip window `ea` reads as `b` and nothing was emitted; inside it `ea` reads as
before and the pokes of R53 were emitted. -/
def WroteByte (ea : Word) (b : Byte) (s t : State) : Prop :=
  (∀ c, c ≠ ea → memRead t c = memRead s c) ∧
  ((ea &&& 0xFC00 ≠ 0xD400 ∧ memRead t ea = b ∧ t.chip = s.chip) ∨
   (ea &&& 0xFC00 = 0xD400 ∧ memRead t ea = memRead s ea ∧
    t.chip = s.chip ++ (if 0xD418 < ea.toNat then
      [ChipEvent.poke (BitVec.ofNat 5 (ea.toNat % 32)) b, ChipEvent.pokeDigi ea b]
      else [ChipEvent.poke (BitVec.ofNat 5 (ea.toNat % 32)) b])))

/-- A row of the table of R281. -/
structure FrameRow where
  timerValue : Nat
  frameUS : Nat
  at44100 : Nat
  at48000 : Nat

/-- The table of R281, its rows with a non-zero speed flag; with a speed flag of 0 the frame has the length of the
second row whatever the timer value is. -/
def frameTable : List FrameRow :=
  [⟨0x4C00, 20000, 882, 960⟩, ⟨0x0000, 20000, 882, 960⟩, ⟨0x2600, 10000, 441, 480⟩, ⟨0x4025, 16880, 744, 810⟩,
   ⟨0x4C01, 20001, 882, 960⟩, ⟨0x9800, 40000, 1764, 1920⟩, ⟨0xFFFF, 67367, 2970, 3233⟩, ⟨0x0001, 1, 0, 0⟩,
   ⟨0x0016, 22, 0, 1⟩, ⟨0x0017, 23, 1, 1⟩]

/-- The registers and `Mem` at the first instruction of a routine (R243): everything else of `s` but the phase is
kept. -/
def EnteredRoutine (entry : Word) (a : Byte) (caller : CallReturn) (s t : State) : Prop :=
  t = { s with a := a, x := 0, y := 0, p := 0, sp := 0xFD, pc := entry, mem := t.mem, phase := .call caller 0 } ∧
  (∀ c, memRead t c = if c = 0x01FE ∨ c = 0x01FF then 0 else memRead s c)

end Sys2Proof.Claims

open Sys2Proof.Claims

/-! ### Encoding -/

/-- One word of each addressing mode, as the table of R90 writes its bytes, decodes to that instruction; so do the
words of the examples of ADC, PHA, INC, JSR, JMP indirect and an undocumented byte, which is one byte long.
(30_encoding.md R90, 30_encoding.md R85, 30_encoding.md R81, 47_flag_nop_illegal.md R228.) -/
def Obligations.WrittenWordsDecode : Prop :=
  decode [0x18] = .ok (.clc, []) ∧
  decode [0x0A] = .ok (.aslAcc, []) ∧
  decode [0xA9, 0x10] = .ok (.ldaImm 0x10, []) ∧
  decode [0xA5, 0x10] = .ok (.ldaZp 0x10, []) ∧
  decode [0xB5, 0x10] = .ok (.ldaZpx 0x10, []) ∧
  decode [0xB6, 0x10] = .ok (.ldxZpy 0x10, []) ∧
  decode [0xAD, 0x34, 0x12] = .ok (.ldaAbs 0x1234, []) ∧
  decode [0xBD, 0x34, 0x12] = .ok (.ldaAbx 0x1234, []) ∧
  decode [0xB9, 0x34, 0x12] = .ok (.ldaAby 0x1234, []) ∧
  decode [0x6C, 0x34, 0x12] = .ok (.jmpInd 0x1234, []) ∧
  decode [0xA1, 0x10] = .ok (.ldaIzx 0x10, []) ∧
  decode [0xB1, 0x10] = .ok (.ldaIzy 0x10, []) ∧
  decode [0xD0, 0xFB] = .ok (.bne 0xFB, []) ∧
  decode [0x69, 0x01] = .ok (.adcImm 0x01, []) ∧
  decode [0x48] = .ok (.pha, []) ∧
  decode [0xE6, 0x10] = .ok (.incZp 0x10, []) ∧
  decode [0x20, 0x34, 0x12] = .ok (.jsr 0x1234, []) ∧
  decode [0xA7, 0x10] = .ok (.ill 0xA7, [0x10])

/-- For every well-formed instruction, with every operand at every value, decoding its bytes followed by anything
gives the instruction and exactly what followed; and its bytes are as many as its length says. (30_encoding.md
R80, 30_encoding.md R81, 30_encoding.md R82, 30_encoding.md R85, 30_encoding.md R87.) -/
def Obligations.DecodeOfEncode : Prop :=
  ∀ (i : Instr) (rest : List Byte), i.wf = true →
    decode (encode i ++ rest) = .ok (i, rest) ∧ (encode i).length = i.length

/-- Whatever byte sequence decodes, the instruction it gives is well formed, and its encoding followed by the rest
is the sequence: every word has one meaning. (30_encoding.md R80, 30_encoding.md R81, 30_encoding.md R84,
30_encoding.md R88.) -/
def Obligations.EncodeOfDecode : Prop :=
  ∀ (bs rest : List Byte) (i : Instr), decode bs = .ok (i, rest) → i.wf = true ∧ encode i ++ rest = bs

/-- Every one of the 256 opcode byte values decodes, whatever follows it: a documented byte to a documented
instruction, an undocumented one to ILL; there are 151 of the first and 105 of the second; and whatever is
decoded executes, in every state. (R83.) -/
def Obligations.EveryOpcodeByteDecodes : Prop :=
  ((List.range 256).filter fun n => !isUndocumented (BitVec.ofNat 8 n)).length = 151 ∧
  ((List.range 256).filter fun n => isUndocumented (BitVec.ofNat 8 n)).length = 105 ∧
  ∀ (op b1 b2 : Byte) (rest : List Byte), ∃ i rest', decode (op :: b1 :: b2 :: rest) = .ok (i, rest') ∧
    (isUndocumented op = false → i.mnemonic ≠ .ILL) ∧
    (isUndocumented op = true → i.mnemonic = .ILL) ∧
    ∀ s : State, ∃ t, exec i s = .next t

/-- Each undocumented byte is an instruction by itself, whatever follows; executing it advances PC by one, leaves
ILL_CYCLES in cyc and changes nothing else; ILL_CYCLES is 2 unless the parameter says otherwise. (R228.) -/
def Obligations.UndocumentedBytesAreOneByteNoOps : Prop :=
  Config.default.illCycles = 2 ∧
  ∀ op : Byte, isUndocumented op = true →
    (∀ rest, decode (op :: rest) = .ok (.ill op, rest)) ∧
    ∀ s : State, exec (.ill op) s = .next { s with pc := s.pc + 1, cyc := s.cfg.illCycles }

/-! ### The step -/

/-- If the bytes at PC decode to i, then inside a routine whose PC is above 1 one step of the machine is exec of i
with its cycles added to the running total of the call, and with the core asked to Step() directly one step is
exec of i with its cycles as the reply. (48_run_subroutine.md R240, 48_run_subroutine.md R244,
48_run_subroutine.md R249, 20_memory.md R65.) -/
def Obligations.StepRunsTheDecodedInstruction : Prop :=
  ∀ (s : State) (i : Instr) (rest : List Byte),
    decode [memRead s s.pc, memRead s (s.pc + 1), memRead s (s.pc + 2)] = .ok (i, rest) →
    (∀ caller total t, s.phase = .call caller total → 1 < s.pc → exec i s = .next t →
      step s = .next { t with phase := .call caller (total + t.cyc) }) ∧
    (∀ cs t, s.phase = .idle → s.commands = .coreStep :: cs → exec i { s with commands := cs } = .next t →
      step s = .next { t with phase := .idle, replies := s.replies ++ [.cycles t.cyc] })

/-- From every state the step answers a next state, unless the command it accepts is a load whose image is not 65536
bytes in canonical form: that one, and it alone, is refused (the model refuses there, notes/assumptions/4.md).
(60_exceptions.md R300, 60_exceptions.md R303, 49_playback_scheduler.md R260, 48_run_subroutine.md R240.) -/
def Obligations.BlockNeverFaults : Prop :=
  ∀ s : State,
    (∃ image initAddr playAddr startTrack subsongCount speedFlag cs, s.phase = .idle ∧
      s.commands = .load image initAddr playAddr startTrack subsongCount speedFlag :: cs ∧
      Memory.wf image = false ∧ step s = .refused .imageOutsideDomain) ∨
    ((∃ t, step s = .next t) ∧
      ∀ image initAddr playAddr startTrack subsongCount speedFlag cs, s.phase = .idle →
        s.commands = .load image initAddr playAddr startTrack subsongCount speedFlag :: cs →
        Memory.wf image = true)

/-- Executing any instruction (every constructor) in any state answers a next state, which differs from the state
before at most in the registers, cyc, Mem and the transactions emitted. (48_run_subroutine.md R240,
60_exceptions.md R300.) -/
def Obligations.EveryInstructionCompletes : Prop :=
  ∀ (i : Instr) (s : State), ∃ t, exec i s = .next t ∧ SameOutsideCore s t

/-- Two states that agree on the registers, Mem and the parameters run the same instruction, end in states that
agree again, charge the same cycles and emit the same transactions, whatever the sequencer, the chip history and
cyc were. (48_run_subroutine.md R240, 10_state.md R30.) -/
def Obligations.InstructionDependsOnRegistersAndMem : Prop :=
  ∀ s t : State, SameCore s t → ∃ s' t' es, coreStep s = .next s' ∧ coreStep t = .next t' ∧ SameCore s' t' ∧
    t'.cyc = s'.cyc ∧ s'.chip = s.chip ++ es ∧ t'.chip = t.chip ++ es

/-- What an instruction appends to the event history is nothing, one ChipPoke, or one ChipPoke followed by one
ChipPokeDigi for the same byte at an address in 0xD419 to 0xD7FF whose low five bits are the register; and
something only if it is a store or a read-modify-write. (48_run_subroutine.md R240, 20_memory.md R53,
20_memory.md R54, 20_memory.md R55, 20_memory.md R61.) -/
def Obligations.AtMostOnePokeAnInstruction : Prop :=
  ∀ (i : Instr) (s t : State), exec i s = .next t → ∃ es, t.chip = s.chip ++ es ∧
    (es = [] ∨ (∃ r v, es = [.poke r v]) ∨
      ∃ (a : Word) (v : Byte), 0xD419 ≤ a.toNat ∧ a.toNat ≤ 0xD7FF ∧
        es = [.poke (BitVec.ofNat 5 (a.toNat % 32)) v, .pokeDigi a v]) ∧
    (es ≠ [] → i.mnemonic ∈ [Mnemonic.STA, .STX, .STY, .ASL, .LSR, .ROL, .ROR, .INC, .DEC])

/-! ### Memory and the chip port -/

/-- A write of a byte changes no other byte of Mem; the addresses whose bits under 0xFC00 are 0xD400 are exactly
0xD400 to 0xD7FF; there Mem is unchanged and ChipPoke, above 0xD418 followed by ChipPokeDigi with the full
address, is emitted; elsewhere the byte reads back and nothing is emitted. (20_memory.md R52, 20_memory.md R53,
20_memory.md R54, 20_memory.md R59.) -/
def Obligations.WritePath : Prop :=
  ∀ (s : State) (ea : Word) (b : Byte), MemoryInv s →
    WroteByte ea b s (memWrite ea b s) ∧
    (ea &&& 0xFC00 = 0xD400 ↔ 0xD400 ≤ ea.toNat ∧ ea.toNat ≤ 0xD7FF) ∧
    memWrite ea b s = { s with mem := (memWrite ea b s).mem, chip := (memWrite ea b s).chip }

/-- If two states keep the canonical form of Mem and every address reads alike in both, their memories are equal.
(10_state.md R32, 20_memory.md R50.) -/
def Obligations.EqualReadsEqualMemories : Prop :=
  ∀ s t : State, MemoryInv s → MemoryInv t → (∀ c, memRead s c = memRead t c) → s.mem = t.mem

/-- If Mem is in canonical form (addresses strictly rising and below 65536, no entry equal to 0) and the block
steps, an instruction, a command or a move of the sequencer, then Mem is in canonical form again. (10_state.md
R32, 20_memory.md R50, 20_memory.md R53, 20_memory.md R62.) -/
def Obligations.StepKeepsMemoryCanonical : Prop :=
  ∀ s t : State, MemoryInv s → step s = .next t → MemoryInv t

/-- The bytes of Mem at 0xD400 to 0xD7FF read the same after any step that is not the acceptance of a load.
(20_memory.md R52, 20_memory.md R53, 20_memory.md R62.) -/
def Obligations.ChipWindowBytesAreConstant : Prop :=
  ∀ (s t : State) (ea : Word), MemoryInv s → step s = .next t → s.acceptsLoad = false →
    0xD400 ≤ ea.toNat → ea.toNat ≤ 0xD7FF → memRead t ea = memRead s ea

/-- If a store outside the chip window writes to the address PC holds afterwards, the next instruction fetched is
the one whose opcode byte is the byte stored. (20_memory.md R63, 20_memory.md R65, 41_load_store_transfer.md
R133.) -/
def Obligations.StoreIsSeenByNextFetch : Prop :=
  ∀ (i : Instr) (mn : Mnemonic) (m : MemMode) (s t : State) (v : Byte), MemoryInv s → i.form = .store mn m →
    storedRegister mn s = some v → exec i s = .next t → (effAddr m s).addr = t.pc → inChipWindow t.pc = false →
    fetch t = decodeInstr v (memRead s (t.pc + 1)) (memRead s (t.pc + 2))

/-! ### Reset and invariants -/

/-- After reset A, X, Y and P are 0, S is 255, PC is the word at the reset vector, every byte of Mem is 0, loaded,
ready and finished are false, no track has been selected, and nothing has been emitted. (10_state.md R38,
10_state.md R39, 10_state.md R40, 10_state.md R32, 10_state.md R33.) -/
def Obligations.ResetState : Prop :=
  let s := State.reset
  s.a = 0 ∧ s.x = 0 ∧ s.y = 0 ∧ s.p = 0 ∧ s.sp = 255 ∧
  s.pc = joinBytes (memRead s 0xFFFD) (memRead s 0xFFFC) ∧ (∀ c, memRead s c = 0) ∧
  s.loaded = false ∧ s.ready = false ∧ s.finished = false ∧ s.trackWritten = false ∧ s.chip = []

/-- At reset Mem is in canonical form and the sequencer invariant holds. (10_state.md R39, 10_state.md R40,
49_playback_scheduler.md R285.) -/
def Obligations.ResetMeetsTheInvariants : Prop :=
  MemoryInv State.reset ∧ SequencerInv State.reset

/-- Every step keeps all of this together: a ready session is loaded, not finished, has selected a track and has a
counter that is not null, and that is positive between commands unless the last frame had no samples; a current
track once written in the session is within its range (in the session is the reading of
notes/assumptions/13.md); a null counter means finished, save a null that load kept from a session before, until
the first init call of a track has returned (R263 against R285, notes/assumptions/14.md); the command in
progress is where its own flags say. (49_playback_scheduler.md R285, 49_playback_scheduler.md R262,
49_playback_scheduler.md R268.) -/
def Obligations.StepKeepsSequencerInv : Prop :=
  ∀ s t : State, SequencerInv s → step s = .next t → SequencerInv t

/-- In a step that turns ready on, the priming play call of a changeTrack has just returned; in a step that turns
finished off, a load is being accepted or the init call of a changeTrack has just returned.
(49_playback_scheduler.md R262, 49_playback_scheduler.md R266, 49_playback_scheduler.md R277.) -/
def Obligations.OnlyTrackSelectionStartsPlayback : Prop :=
  ∀ s t : State, SequencerInv s → step s = .next t →
    (s.ready = false → t.ready = true → s.pc ≤ 1 ∧ ∃ total, s.phase = .call (.play .changeTrack) total) ∧
    (s.finished = true → t.finished = false →
      s.acceptsLoad = true ∨ s.pc ≤ 1 ∧ ∃ total, s.phase = .call .trackInit total)

/-- No step changes the parameters (that they are fixed for a run is the reading of notes/assumptions/5.md and
10.md); the event history and the replies only grow; a step that ends a command, one that leaves none in
progress when one was in progress or was accepted, appends exactly one reply, and no other step appends any; a
command is taken only when none is in progress; with none in progress and none issued nothing changes. That a
command answers by a reply in a list is notes/assumptions/11.md. (49_playback_scheduler.md R260,
48_run_subroutine.md R249, 10_state.md R33, 00_scope.md R7, 00_scope.md R8.) -/
def Obligations.CommandsOneAtATime : Prop :=
  ∀ s t : State, step s = .next t →
    t.cfg = s.cfg ∧ (∃ es, t.chip = s.chip ++ es) ∧
    ((s.phase ≠ .idle ∨ s.commands ≠ []) → t.phase = .idle → ∃ r, t.replies = s.replies ++ [r]) ∧
    ((s.phase = .idle ∧ s.commands = [] ∨ t.phase ≠ .idle) → t.replies = s.replies) ∧
    (s.phase ≠ .idle → t.commands = s.commands) ∧
    (s.phase = .idle → s.commands = [] → t = s) ∧
    ∀ c cs, s.phase = .idle → s.commands = c :: cs → t.commands = cs

/-! ### The entry points of the core -/

/-- reset() called directly sets PC from 0xFFFC (low) and 0xFFFD (high), A, X, Y and P to 0 and S to 255; resetTo
called directly with any integers sets PC to pc modulo 65536 and A to a modulo 256, X, Y and P to 0 and S to
255; neither changes anything else but that the command is done. (48_run_subroutine.md R241,
48_run_subroutine.md R242, 10_state.md R38.) -/
def Obligations.CoreResetEntryPoints : Prop :=
  ∀ (s : State) (cs : List HostCommand), s.phase = .idle →
    (s.commands = .coreReset :: cs → step s = .next { s with
      a := 0, x := 0, y := 0, p := 0, sp := 255, pc := joinBytes (memRead s 0xFFFD) (memRead s 0xFFFC)
      commands := cs, replies := s.replies ++ [.completed] }) ∧
    ∀ pc a : Int, s.commands = .coreResetTo pc a :: cs →
      ∃ t, step s = .next t ∧ (t.pc.toNat : Int) = pc % 65536 ∧ (t.a.toNat : Int) = a % 256 ∧
        t = { s with
          a := t.a, x := 0, y := 0, p := 0, sp := 255, pc := t.pc
          commands := cs, replies := s.replies ++ [.completed] }

/-- runSubroutine called directly, and every call the sequencer makes, leaves A = u8(arg), X = Y = P = 0, S = 0xFD,
PC = u16(entry), the bytes at 0x01FE and 0x01FF zero and every other byte as it was, a total of 0, and nothing
else changed; in a routine called directly with PC equal to 0 or 1 the step executes nothing, ends the call and
replies with the cycles counted so far. (48_run_subroutine.md R243, 48_run_subroutine.md R242,
48_run_subroutine.md R244, 48_run_subroutine.md R245, 10_state.md R38.) -/
def Obligations.RunSubroutine : Prop :=
  ∀ s : State, MemoryInv s →
    (∀ caller entry a, EnteredRoutine entry a caller s (startCall caller entry a s)) ∧
    (∀ cs entry a, s.phase = .idle → s.commands = .coreRunSubroutine entry a :: cs →
      ∃ t, step s = .next t ∧
        EnteredRoutine (BitVec.ofInt 16 entry) (BitVec.ofInt 8 a) .bench { s with commands := cs } t) ∧
    ∀ total, s.phase = .call .bench total → s.pc.toNat ≤ 1 →
      step s = .next { s with phase := .idle, replies := s.replies ++ [.cycles total] }

/-! ### The stack -/

/-- Push(v) stores v at 0x0100 + S and nowhere else, then lowers S by one unless it is 0; no other register, flag or
cycle count changes and nothing is emitted. (R150.) -/
def Obligations.PushWritesThenMoves : Prop :=
  ∀ (s : State) (v : Byte), MemoryInv s →
    (∀ c : Word, memRead (push v s) c = if c.toNat = 256 + s.sp.toNat then v else memRead s c) ∧
    push v s = { s with mem := (push v s).mem, sp := BitVec.ofNat 8 (s.sp.toNat - 1) }

/-- Pop raises S by one unless it is 255 and returns the byte the pointer then names, changing nothing else; after a
Push it returns the byte pushed and restores S when S was not 0, and returns the byte at 0x0101 and leaves S = 1
when S was 0. (R151.) -/
def Obligations.PopMovesThenReads : Prop :=
  ∀ (s : State) (v : Byte), MemoryInv s →
    popValue s = memRead s (BitVec.ofNat 16 (256 + min (s.sp.toNat + 1) 255)) ∧
    pop s = { s with sp := BitVec.ofNat 8 (min (s.sp.toNat + 1) 255) } ∧
    (s.sp ≠ 0 → popValue (push v s) = v ∧ (pop (push v s)).sp = s.sp) ∧
    (s.sp = 0 → popValue (push v s) = memRead s 0x0101 ∧ (pop (push v s)).sp = 1)

/-- When S is not 0, PHA and later PLA, from any A and PC in between, restore A and S; PHP and later PLP restore all
eight bits of P and S. When S is at least 2, RTS or RTI run after a JSR with its S and Mem, wherever PC then is,
sets PC to the address behind the JSR and restores S. (42_stack.md R152, 42_stack.md R153, 42_stack.md R154,
42_stack.md R155, 46_control_transfer.md R211, 46_control_transfer.md R212, 46_control_transfer.md R213,
10_state.md R28.) -/
def Obligations.PullsUndoPushes : Prop :=
  ∀ (s : State) (q : Byte) (target pc : Word), MemoryInv s → s.sp ≠ 0 →
    (∃ t u, exec .pha s = .next t ∧ exec .pla { t with a := q, pc := pc } = .next u ∧ u.a = s.a ∧ u.sp = s.sp) ∧
    (∃ t u, exec .php s = .next t ∧ exec .plp { t with p := q, pc := pc } = .next u ∧ u.p = s.p ∧ u.sp = s.sp) ∧
    (2 ≤ s.sp.toNat → ∃ t u v, exec (.jsr target) s = .next t ∧
      exec .rts { t with pc := pc } = .next u ∧ u.pc = s.pc + 3 ∧ u.sp = s.sp ∧
      exec .rti { t with pc := pc } = .next v ∧ v.pc = s.pc + 3 ∧ v.sp = s.sp)

/-- PHA and PHP complete: they store A, or all eight bits of P as they stand, at 0x0100 + S and at no other address,
lower S by one unless it is 0, advance PC by 1 at 3 cycles, and change nothing else. (42_stack.md R152,
42_stack.md R153.) -/
def Obligations.StackPushInstructions : Prop :=
  ∀ s : State, MemoryInv s →
    (∃ t, exec .pha s = .next t ∧
      (∀ c : Word, memRead t c = if c.toNat = 256 + s.sp.toNat then s.a else memRead s c) ∧
      t = { s with mem := t.mem, sp := BitVec.ofNat 8 (s.sp.toNat - 1), pc := s.pc + 1, cyc := 3 }) ∧
    (∃ t, exec .php s = .next t ∧
      (∀ c : Word, memRead t c = if c.toNat = 256 + s.sp.toNat then s.p else memRead s c) ∧
      t = { s with mem := t.mem, sp := BitVec.ofNat 8 (s.sp.toNat - 1), pc := s.pc + 1, cyc := 3 })

/-- PLA and PLP complete: S goes up by one unless it is 255, the byte it then names becomes A (with N and Z set from
it) or all of P, PC advances by 1 at 4 cycles, and nothing else, no byte of memory, changes. (42_stack.md R154,
42_stack.md R155.) -/
def Obligations.StackPullInstructions : Prop :=
  ∀ (s : State) (v : Byte), v = memRead s (BitVec.ofNat 16 (256 + min (s.sp.toNat + 1) 255)) →
    exec .pla s = .next { s with
      a := v, p := setNZ v s.p, sp := BitVec.ofNat 8 (min (s.sp.toNat + 1) 255), pc := s.pc + 1, cyc := 4 } ∧
    exec .plp s = .next { s with
      p := v, sp := BitVec.ofNat 8 (min (s.sp.toNat + 1) 255), pc := s.pc + 1, cyc := 4 }

/-! ### Operands and flags -/

/-- After SetNZ(v), bit 1 of P says whether v is 0, bit 7 is bit 7 of v, and every other bit is as before.
(10_state.md R27.) -/
def Obligations.SetNZ : Prop :=
  ∀ (v p : Byte) (k : Nat), k < 8 →
    (setNZ v p).getLsbD k =
      if k = 7 then decide (128 ≤ v.toNat) else if k = 1 then decide (v.toNat = 0) else p.getLsbD k

/-- zp is the operand byte; zpx and zpy add X or Y modulo 256; abs is the operand; abx and aby add X or Y modulo
65536; izx reads its pointer at (z + X) and (z + X + 1) modulo 256; izy reads it at z and (z + 1) modulo 256 and
adds Y modulo 65536. The operand is the byte of the instruction in imm, and in every other mode the byte of
memory at the effective address. (40_addressing_modes.md R104, 40_addressing_modes.md R105,
40_addressing_modes.md R106, 40_addressing_modes.md R107, 40_addressing_modes.md R108, 40_addressing_modes.md
R109, 40_addressing_modes.md R110, 40_addressing_modes.md R111, 40_addressing_modes.md R112,
40_addressing_modes.md R118, 20_memory.md R51, 20_memory.md R56.) -/
def Obligations.EffectiveAddresses : Prop :=
  ∀ (s : State) (z : Byte) (w : Word),
    (effAddr (.zp z) s).addr.toNat = z.toNat ∧
    (effAddr (.zpx z) s).addr.toNat = (z.toNat + s.x.toNat) % 256 ∧
    (effAddr (.zpy z) s).addr.toNat = (z.toNat + s.y.toNat) % 256 ∧
    (effAddr (.abs w) s).addr = w ∧
    (effAddr (.abx w) s).addr.toNat = (w.toNat + s.x.toNat) % 65536 ∧
    (effAddr (.aby w) s).addr.toNat = (w.toNat + s.y.toNat) % 65536 ∧
    (effAddr (.izx z) s).addr.toNat =
      (memRead s (BitVec.ofNat 16 ((z.toNat + s.x.toNat) % 256))).toNat +
      256 * (memRead s (BitVec.ofNat 16 ((z.toNat + s.x.toNat + 1) % 256))).toNat ∧
    (effAddr (.izy z) s).addr.toNat =
      ((memRead s (BitVec.ofNat 16 z.toNat)).toNat +
        256 * (memRead s (BitVec.ofNat 16 ((z.toNat + 1) % 256))).toNat + s.y.toNat) % 65536 ∧
    operand (.imm z) s = z ∧
    ∀ m : MemMode, operand (.mem m) s = memRead s (effAddr m s).addr

/-- For abx, aby and izy the page-cross flag is whether the low byte of the un-indexed base plus the index exceeds
255; for zp, zpx, zpy, abs and izx it is false. (40_addressing_modes.md R109, 40_addressing_modes.md R110,
40_addressing_modes.md R112, 40_addressing_modes.md R115.) -/
def Obligations.PageCrossing : Prop :=
  ∀ (s : State) (z : Byte) (w : Word),
    ((effAddr (.abx w) s).crossed = true ↔ 255 < w.toNat % 256 + s.x.toNat) ∧
    ((effAddr (.aby w) s).crossed = true ↔ 255 < w.toNat % 256 + s.y.toNat) ∧
    ((effAddr (.izy z) s).crossed = true ↔
      255 < (memRead s (BitVec.ofNat 16 z.toNat)).toNat + s.y.toNat) ∧
    (effAddr (.zp z) s).crossed = false ∧ (effAddr (.zpx z) s).crossed = false ∧
    (effAddr (.zpy z) s).crossed = false ∧ (effAddr (.abs w) s).crossed = false ∧
    (effAddr (.izx z) s).crossed = false

/-- An instruction that R25 does not list as a writer of N, V, D, I, Z or C leaves that bit as it was, and only PLP
changes bits 4 and 5. (10_state.md R25, 10_state.md R28.) -/
def Obligations.FlagsHaveOnlyTheirWriters : Prop :=
  ∀ (i : Instr) (s t : State) (k : Nat), exec i s = .next t → i.mnemonic ∉ flagWriters k →
    t.p.getLsbD k = s.p.getLsbD k

/-- Two states that differ only in bits 2 to 5 of P execute every instruction but PHP to states that differ in
nothing else: the same registers, memory, cycles, transactions, and the same N, V, Z and C. (10_state.md R26,
10_state.md R28, 00_scope.md R9.) -/
def Obligations.DecimalAndInterruptFlagsDoNothing : Prop :=
  ∀ (i : Instr) (s : State) (q : Byte), i.mnemonic ≠ .PHP → q &&& 0xC3 = s.p &&& 0xC3 →
    ∃ t u, exec i s = .next t ∧ exec i { s with p := q } = .next u ∧
      u = { t with p := u.p } ∧ u.p &&& 0xC3 = t.p &&& 0xC3

/-- cyc ends at the count R85 prints for the opcode byte; a read-class instruction in abx, aby or izy adds 1 when a
page is crossed; a branch adds nothing, 1 or 2 as it is not taken, taken on the page of the next instruction, or
taken to another; no other class adds anything; an undocumented byte costs ILL_CYCLES. (30_encoding.md R85,
40_addressing_modes.md R116, 40_addressing_modes.md R117, 46_control_transfer.md R200, 10_state.md R30.) -/
def Obligations.CyclesFollowTheOpcodeTable : Prop :=
  ∀ (i : Instr) (s t : State) (op : Byte) (bs : List Byte), encode i = op :: bs → exec i s = .next t →
    match i.form with
    | .read _ m => t.cyc = baseCycles.getD op.toNat 0 +
        match m with
        | .imm _ => 0
        | .mem m => (effAddr m s).crossed.toNat
    | .branch mn _ => t.cyc = baseCycles.getD op.toNat 0 +
        if branchTaken mn s.p = some true then
          if t.pc.toNat / 256 = (s.pc.toNat + 2) % 65536 / 256 then 1 else 2
        else 0
    | .implied .ILL => t.cyc = s.cfg.illCycles
    | _ => t.cyc = baseCycles.getD op.toNat 0

/-- An instruction that is not a branch, jump, call, return or BRK leaves PC at its own address plus its length,
modulo 65536; so does a branch that is not taken. (10_state.md R23, 30_encoding.md R84.) -/
def Obligations.PcAdvancesByLength : Prop :=
  ∀ (i : Instr) (s t : State), exec i s = .next t →
    (i.mnemonic ∉ controlTransfers ∨ branchTaken i.mnemonic s.p = some false) →
    t.pc.toNat = (s.pc.toNat + (encode i).length) % 65536

/-! ### Instructions -/

/-- In every mode they complete: LDA, LDX and LDY put the operand in their register, AND, ORA and EOR put in A the
bitwise and, or, exclusive or of A and the operand; N and Z are set from the byte written, PC advances by the
length, cyc is the mode cost plus the page-cross penalty, and no other register, flag or byte of memory changes.
(41_load_store_transfer.md R130, 41_load_store_transfer.md R131, 41_load_store_transfer.md R132, 44_logic_bit.md
R170, 44_logic_bit.md R171, 44_logic_bit.md R172, 40_addressing_modes.md R117, 40_addressing_modes.md R118.) -/
def Obligations.LoadsAndLogic : Prop :=
  ∀ (i : Instr) (m : ReadMode) (s u : State) (v : Byte), v = operand m s →
    u = { s with pc := s.pc + BitVec.ofNat 16 i.length, cyc := m.cycles + penalty m s } →
    (i.form = .read .LDA m → exec i s = .next { u with a := v, p := setNZ v s.p }) ∧
    (i.form = .read .LDX m → exec i s = .next { u with x := v, p := setNZ v s.p }) ∧
    (i.form = .read .LDY m → exec i s = .next { u with y := v, p := setNZ v s.p }) ∧
    (i.form = .read .AND m → exec i s = .next { u with a := s.a &&& v, p := setNZ (s.a &&& v) s.p }) ∧
    (i.form = .read .ORA m → exec i s = .next { u with a := s.a ||| v, p := setNZ (s.a ||| v) s.p }) ∧
    (i.form = .read .EOR m → exec i s = .next { u with a := s.a ^^^ v, p := setNZ (s.a ^^^ v) s.p })

/-- STA, STX and STY complete in every mode: the register is written at the effective address, so that byte alone
changes, or the pokes of R53 are emitted and no byte changes where the address is in the chip window; PC
advances by the length at the store cost of the mode; no register, no flag and nothing else changes.
(41_load_store_transfer.md R133, 41_load_store_transfer.md R134, 41_load_store_transfer.md R135,
40_addressing_modes.md R117, 40_addressing_modes.md R119, 20_memory.md R53.) -/
def Obligations.Stores : Prop :=
  ∀ (i : Instr) (mn : Mnemonic) (m : MemMode) (s : State), MemoryInv s → i.form = .store mn m →
    ∃ v t, storedRegister mn s = some v ∧ exec i s = .next t ∧ WroteByte (effAddr m s).addr v s t ∧
      t = { s with
        pc := s.pc + BitVec.ofNat 16 i.length, cyc := m.storeCycles, mem := t.mem, chip := t.chip }

/-- TAX, TAY, TXA, TYA and TSX complete: they copy the register and set N and Z from it; TXS copies X to S and
writes no flag; INX, INY, DEX and DEY complete: the register goes up or down by one modulo 256 and N and Z are
set from it; each advances PC by 1 at 2 cycles and changes nothing else. (41_load_store_transfer.md R136,
41_load_store_transfer.md R137, 41_load_store_transfer.md R138, 41_load_store_transfer.md R139,
41_load_store_transfer.md R140, 41_load_store_transfer.md R141, 45_shift_incdec.md R186, 45_shift_incdec.md
R187, 45_shift_incdec.md R188, 45_shift_incdec.md R189.) -/
def Obligations.RegisterInstructions : Prop :=
  ∀ s : State,
    exec .tax s = .next { s with x := s.a, p := setNZ s.a s.p, pc := s.pc + 1, cyc := 2 } ∧
    exec .tay s = .next { s with y := s.a, p := setNZ s.a s.p, pc := s.pc + 1, cyc := 2 } ∧
    exec .txa s = .next { s with a := s.x, p := setNZ s.x s.p, pc := s.pc + 1, cyc := 2 } ∧
    exec .tya s = .next { s with a := s.y, p := setNZ s.y s.p, pc := s.pc + 1, cyc := 2 } ∧
    exec .tsx s = .next { s with x := s.sp, p := setNZ s.sp s.p, pc := s.pc + 1, cyc := 2 } ∧
    exec .txs s = .next { s with sp := s.x, pc := s.pc + 1, cyc := 2 } ∧
    exec .inx s = .next { s with x := s.x + 1, p := setNZ (s.x + 1) s.p, pc := s.pc + 1, cyc := 2 } ∧
    exec .iny s = .next { s with y := s.y + 1, p := setNZ (s.y + 1) s.p, pc := s.pc + 1, cyc := 2 } ∧
    exec .dex s = .next { s with x := s.x - 1, p := setNZ (s.x - 1) s.p, pc := s.pc + 1, cyc := 2 } ∧
    exec .dey s = .next { s with y := s.y - 1, p := setNZ (s.y - 1) s.p, pc := s.pc + 1, cyc := 2 }

/-- ADC completes in every mode: A becomes (A + M + C) modulo 256, C is set if the sum reaches 256, Z and N from the
result, V is C xor N as just written, D and I and bits 4 and 5 are as before, PC and cyc advance, and nothing
else, no byte of memory, changes. (43_arithmetic_compare.md R160, 43_arithmetic_compare.md R165, 10_state.md
R25.) -/
def Obligations.AddWithCarry : Prop :=
  ∀ (i : Instr) (m : ReadMode) (s : State) (w : Nat), i.form = .read .ADC m →
    w = s.a.toNat + (operand m s).toNat + (s.p.getLsbD 0).toNat →
    ∃ t, exec i s = .next t ∧ t.a.toNat = w % 256 ∧
      t.p.getLsbD 0 = decide (256 ≤ w) ∧ t.p.getLsbD 1 = decide (w % 256 = 0) ∧
      t.p.getLsbD 7 = decide (128 ≤ w % 256) ∧ t.p.getLsbD 6 = (t.p.getLsbD 0 != t.p.getLsbD 7) ∧
      t.p &&& 0x3C = s.p &&& 0x3C ∧
      t = { s with a := t.a, p := t.p, pc := s.pc + BitVec.ofNat 16 i.length, cyc := m.cycles + penalty m s }

/-- SBC completes in every mode: A becomes (A - M - (1 - C)) modulo 256, C is set exactly when that difference is
not negative, Z and N come from the result, V is C xor N as just written, D and I and bits 4 and 5 are as
before, PC and cyc advance, and nothing else, no byte of memory, changes. (43_arithmetic_compare.md R161,
43_arithmetic_compare.md R165, 10_state.md R25.) -/
def Obligations.SubtractWithBorrow : Prop :=
  ∀ (i : Instr) (m : ReadMode) (s : State) (d : Int), i.form = .read .SBC m →
    d = s.a.toNat - (operand m s).toNat - (1 - (s.p.getLsbD 0).toNat) →
    ∃ t, exec i s = .next t ∧ (t.a.toNat : Int) = d % 256 ∧
      t.p.getLsbD 0 = decide (0 ≤ d) ∧ t.p.getLsbD 1 = decide (t.a = 0) ∧
      t.p.getLsbD 7 = decide (128 ≤ t.a.toNat) ∧ t.p.getLsbD 6 = (t.p.getLsbD 0 != t.p.getLsbD 7) ∧
      t.p &&& 0x3C = s.p &&& 0x3C ∧
      t = { s with a := t.a, p := t.p, pc := s.pc + BitVec.ofNat 16 i.length, cyc := m.cycles + penalty m s }

/-- CMP, CPX and CPY complete in every mode: C is set exactly when the register is at least the operand as an
unsigned byte, Z exactly when they are equal, N is bit 7 of their difference modulo 256; the other flags, every
register and every byte of memory are as before. (43_arithmetic_compare.md R162, 43_arithmetic_compare.md R163,
43_arithmetic_compare.md R164, 43_arithmetic_compare.md R166.) -/
def Obligations.Compares : Prop :=
  ∀ (i : Instr) (mn : Mnemonic) (m : ReadMode) (s : State) (r : Byte), i.form = .read mn m →
    comparedRegister mn s = some r →
    ∃ t, exec i s = .next t ∧
      t.p.getLsbD 0 = decide ((operand m s).toNat ≤ r.toNat) ∧ t.p.getLsbD 1 = decide (r = operand m s) ∧
      t.p.getLsbD 7 = decide (128 ≤ (r.toNat + 256 - (operand m s).toNat) % 256) ∧
      t.p &&& 0x7C = s.p &&& 0x7C ∧
      t = { s with p := t.p, pc := s.pc + BitVec.ofNat 16 i.length, cyc := m.cycles + penalty m s }

/-- BIT completes in both modes: N and V are bits 7 and 6 of the memory byte, Z is whether A and the byte have no
common bit, the other flags, A and memory are as before. (44_logic_bit.md R173.) -/
def Obligations.BitTest : Prop :=
  ∀ (i : Instr) (m : ReadMode) (s : State), i.form = .read .BIT m →
    ∃ t, exec i s = .next t ∧
      t.p.getLsbD 7 = (operand m s).getLsbD 7 ∧ t.p.getLsbD 6 = (operand m s).getLsbD 6 ∧
      t.p.getLsbD 1 = decide (s.a &&& operand m s = 0) ∧ t.p &&& 0x3D = s.p &&& 0x3D ∧
      t = { s with p := t.p, pc := s.pc + BitVec.ofNat 16 i.length, cyc := m.cycles + penalty m s }

/-- The accumulator forms complete: A becomes the shifted or rotated byte, C the bit that moved out, N and Z come
from the result, the other flags are as before, PC advances by 1 at 2 cycles, and nothing else changes.
(45_shift_incdec.md R180, 45_shift_incdec.md R181, 45_shift_incdec.md R182, 45_shift_incdec.md R183,
40_addressing_modes.md R103, 40_addressing_modes.md R120.) -/
def Obligations.ReadModifyWriteAccumulator : Prop :=
  ∀ (i : Instr) (mn : Mnemonic) (s : State), i.form = .rmw mn .acc →
    ∃ r t, rmwResult mn s.a.toNat (s.p.getLsbD 0).toNat = some r ∧ exec i s = .next t ∧
      t.p.getLsbD 0 = rmwCarry mn s.a.toNat (s.p.getLsbD 0) ∧ t.p.getLsbD 1 = decide (r = 0) ∧
      t.p.getLsbD 7 = decide (128 ≤ r) ∧ t.p &&& 0x7C = s.p &&& 0x7C ∧
      t = { s with a := BitVec.ofNat 8 r, p := t.p, pc := s.pc + 1, cyc := 2 }

/-- The memory forms complete: the result is computed from the byte at the effective address and written there
through the write path, so that byte alone changes, or the pokes of R53 are emitted once and no byte changes in
the chip window; C is the bit that moved out (as before for INC and DEC), N and Z come from the result, the
other flags and all registers are as before. (45_shift_incdec.md R180, 45_shift_incdec.md R181,
45_shift_incdec.md R182, 45_shift_incdec.md R183, 45_shift_incdec.md R184, 45_shift_incdec.md R185,
40_addressing_modes.md R120, 40_addressing_modes.md R121, 20_memory.md R53.) -/
def Obligations.ReadModifyWriteMemory : Prop :=
  ∀ (i : Instr) (mn : Mnemonic) (m : MemMode) (s : State) (v : Byte), MemoryInv s → i.form = .rmw mn (.mem m) →
    v = memRead s (effAddr m s).addr →
    ∃ r t, rmwResult mn v.toNat (s.p.getLsbD 0).toNat = some r ∧ exec i s = .next t ∧
      WroteByte (effAddr m s).addr (BitVec.ofNat 8 r) s t ∧
      t.p.getLsbD 0 = rmwCarry mn v.toNat (s.p.getLsbD 0) ∧ t.p.getLsbD 1 = decide (r = 0) ∧
      t.p.getLsbD 7 = decide (128 ≤ r) ∧ t.p &&& 0x7C = s.p &&& 0x7C ∧
      t = { s with
        p := t.p, pc := s.pc + BitVec.ofNat 16 i.length, cyc := (RmwMode.mem m).cycles
        mem := t.mem, chip := t.chip }

/-- Every branch completes. Not taken, it only advances PC by 2 at 2 cycles; taken, PC is the address behind it plus
the signed displacement modulo 65536, at 3 cycles on the page of that address and 4 on another; nothing else
changes either way. The conditions are those of R201 to R208. (46_control_transfer.md R200,
46_control_transfer.md R201, 46_control_transfer.md R202, 46_control_transfer.md R203, 46_control_transfer.md
R204, 46_control_transfer.md R205, 46_control_transfer.md R206, 46_control_transfer.md R207,
46_control_transfer.md R208, 40_addressing_modes.md R113.) -/
def Obligations.Branches : Prop :=
  ∀ (i : Instr) (mn : Mnemonic) (d : Byte) (s : State), i.form = .branch mn d →
    (branchTaken mn s.p = some false ∧ exec i s = .next { s with pc := s.pc + 2, cyc := 2 }) ∨
    (branchTaken mn s.p = some true ∧ ∃ t, exec i s = .next t ∧
      (t.pc.toNat : Int) = (s.pc.toNat + 2 + d.toInt) % 65536 ∧
      t = { s with
        pc := t.pc
        cyc := if t.pc.toNat / 256 = (s.pc.toNat + 2) % 65536 / 256 then 3 else 4 })

/-- JMP completes in both modes and changes only PC and cyc: absolute, PC is the operand at 3 cycles; indirect, at 5
cycles, the low byte of PC is read at the pointer and the high byte at the next address modulo 65536, or, where
JMP_IND_PAGE_WRAP is true, at the next address on the same page. (46_control_transfer.md R209,
40_addressing_modes.md R114.) -/
def Obligations.Jumps : Prop :=
  ∀ (s : State) (t p : Word),
    exec (.jmpAbs t) s = .next { s with pc := t, cyc := 3 } ∧
    (s.cfg.jmpIndPageWrap = false → exec (.jmpInd p) s = .next { s with
      pc := BitVec.ofNat 16 ((memRead s p).toNat +
        256 * (memRead s (BitVec.ofNat 16 ((p.toNat + 1) % 65536))).toNat)
      cyc := 5 }) ∧
    (s.cfg.jmpIndPageWrap = true → exec (.jmpInd p) s = .next { s with
      pc := BitVec.ofNat 16 ((memRead s p).toNat +
        256 * (memRead s (BitVec.ofNat 16 (p.toNat / 256 * 256 + (p.toNat + 1) % 256))).toNat)
      cyc := 5 })

/-- JSR completes: the high byte of PC + 2 is stored at 0x0100 + S, then the low byte at 0x0100 plus the S one lower
(or at 0x0100 again when S is 0), no other byte changes, S goes down by two clamped at 0, PC is the target, 6
cycles, and no flag or other register changes. (46_control_transfer.md R211, 42_stack.md R150, 10_state.md R24.) -/
def Obligations.JumpToSubroutine : Prop :=
  ∀ (s : State) (target : Word), MemoryInv s →
    ∃ t, exec (.jsr target) s = .next t ∧
      (∀ c : Word, memRead t c =
        if c.toNat = 256 + (s.sp.toNat - 1) then BitVec.ofNat 8 ((s.pc.toNat + 2) % 65536 % 256)
        else if c.toNat = 256 + s.sp.toNat then BitVec.ofNat 8 ((s.pc.toNat + 2) % 65536 / 256)
        else memRead s c) ∧
      t = { s with pc := target, sp := BitVec.ofNat 8 (s.sp.toNat - 2), cyc := 6, mem := t.mem }

/-- RTS and RTI complete and do the same: the low byte is read where S points after going up by one (clamped at
255), the high byte after going up again, PC is the address so read plus one modulo 65536, 6 cycles; P and every
byte of memory are as before. (46_control_transfer.md R212, 46_control_transfer.md R213, 42_stack.md R151.) -/
def Obligations.Returns : Prop :=
  ∀ (s : State) (lo hi : Byte), lo = memRead s (BitVec.ofNat 16 (256 + min (s.sp.toNat + 1) 255)) →
    hi = memRead s (BitVec.ofNat 16 (256 + min (s.sp.toNat + 2) 255)) →
    exec .rts s = .next { s with
      pc := BitVec.ofNat 16 (256 * hi.toNat + lo.toNat + 1)
      sp := BitVec.ofNat 8 (min (s.sp.toNat + 2) 255), cyc := 6 } ∧
    exec .rti s = .next { s with
      pc := BitVec.ofNat 16 (256 * hi.toNat + lo.toNat + 1)
      sp := BitVec.ofNat 8 (min (s.sp.toNat + 2) 255), cyc := 6 }

/-- BRK completes: PC becomes 0, cyc 7, and nothing else changes, no byte is pushed and no flag set; in a routine
called directly, a step at a BRK byte and the step after it end the call with its 7 cycles counted.
(46_control_transfer.md R214, 48_run_subroutine.md R244, 60_exceptions.md R304.) -/
def Obligations.BreakHaltsTheRoutine : Prop :=
  ∀ s : State,
    exec .brk s = .next { s with pc := 0, cyc := 7 } ∧
    ∀ total, s.phase = .call .bench total → 1 < s.pc → memRead s s.pc = 0x00 →
      ∃ t, step s = .next t ∧ step t = .next { s with
        pc := 0, cyc := 7, phase := .idle, replies := s.replies ++ [.cycles (total + 7)] }

/-- CLC, SEC, CLI, SEI, CLD, SED and CLV, at their opcode bytes, complete: they clear or set their one bit of P,
advance PC by 1 at 2 cycles and change nothing else; NOP does the same without writing P. (R220, R221, R222,
R223, R224, R225, R226, R227.) -/
def Obligations.FlagInstructionsAndNop : Prop :=
  decode [0x18, 0x38, 0x58, 0x78] = .ok (.clc, [0x38, 0x58, 0x78]) ∧ decode [0x38] = .ok (.sec, []) ∧
  decode [0x58] = .ok (.cli, []) ∧ decode [0x78] = .ok (.sei, []) ∧ decode [0xD8] = .ok (.cld, []) ∧
  decode [0xF8] = .ok (.sed, []) ∧ decode [0xB8] = .ok (.clv, []) ∧ decode [0xEA] = .ok (.nop, []) ∧
  ∀ s : State,
    exec .clc s = .next { s with p := s.p &&& 0xFE, pc := s.pc + 1, cyc := 2 } ∧
    exec .sec s = .next { s with p := s.p ||| 0x01, pc := s.pc + 1, cyc := 2 } ∧
    exec .cli s = .next { s with p := s.p &&& 0xFB, pc := s.pc + 1, cyc := 2 } ∧
    exec .sei s = .next { s with p := s.p ||| 0x04, pc := s.pc + 1, cyc := 2 } ∧
    exec .cld s = .next { s with p := s.p &&& 0xF7, pc := s.pc + 1, cyc := 2 } ∧
    exec .sed s = .next { s with p := s.p ||| 0x08, pc := s.pc + 1, cyc := 2 } ∧
    exec .clv s = .next { s with p := s.p &&& 0xBF, pc := s.pc + 1, cyc := 2 } ∧
    exec .nop s = .next { s with pc := s.pc + 1, cyc := 2 }

/-! ### The frame sequencer -/

/-- stop() is accepted in every state between commands; it clears ready and changes nothing else, finished included;
a fill issued after it returns 0 and changes nothing more. (R278.) -/
def Obligations.StopOnlyClearsReady : Prop :=
  ∀ (s : State) (cs : List HostCommand), s.phase = .idle →
    (s.commands = .stop :: cs →
      step s = .next { s with ready := false, commands := cs, replies := s.replies ++ [.completed] }) ∧
    ∀ n offset, s.commands = .stop :: .fill n offset :: cs →
      ∃ t, step s = .next t ∧ step t = .next { s with
        ready := false, commands := cs, replies := s.replies ++ [.completed, .samples 0] }

/-- When ready is false, fill returns 0 at once, for every request, and changes nothing else. (R272.) -/
def Obligations.FillOnAStoppedSession : Prop :=
  ∀ (s : State) (cs : List HostCommand) (n offset : Nat), s.phase = .idle → s.commands = .fill n offset :: cs →
    s.ready = false → step s = .next { s with commands := cs, replies := s.replies ++ [.samples 0] }

/-- changeTrack(n) on an unloaded session or with n below 0 or above subsongCount changes nothing; nextTrack is
changeTrack(currentTrack + 1) and prevTrack changeTrack(currentTrack - 1), in integers, once a track has been
selected, and nothing before. (49_playback_scheduler.md R266, 49_playback_scheduler.md R267,
49_playback_scheduler.md R284.) -/
def Obligations.TrackOutOfRangeIsIgnored : Prop :=
  ∀ (s : State) (cs : List HostCommand), s.phase = .idle →
    (∀ n : Int, s.loaded = false ∨ n < 0 ∨ (s.subsongCount.toNat : Int) < n →
      step { s with commands := .changeTrack n :: cs } =
        .next { s with commands := cs, replies := s.replies ++ [.completed] }) ∧
    (s.trackWritten = false ∨ s.loaded = false ∨ s.subsongCount ≤ s.currentTrack →
      step { s with commands := .nextTrack :: cs } =
        .next { s with commands := cs, replies := s.replies ++ [.completed] }) ∧
    (s.trackWritten = false ∨ s.loaded = false ∨ s.currentTrack = 0 →
      step { s with commands := .prevTrack :: cs } =
        .next { s with commands := cs, replies := s.replies ++ [.completed] }) ∧
    (s.trackWritten = true →
      step { s with commands := .nextTrack :: cs } =
        step { s with commands := .changeTrack (s.currentTrack.toNat + 1) :: cs } ∧
      step { s with commands := .prevTrack :: cs } =
        step { s with commands := .changeTrack (s.currentTrack.toNat - 1) :: cs })

/-- On a loaded session changeTrack(n) with n in range clears ready, latches n and enters the init routine with A =
n; when that returns, finished is cleared, the counter is 0 and the play routine is entered with A = 0; when
that returns, ready is set, the counter and the frame length are those of the first frame, and the command is
done. (49_playback_scheduler.md R266, 49_playback_scheduler.md R268.) -/
def Obligations.ChangeTrackStages : Prop :=
  ∀ s : State, MemoryInv s → s.loaded = true →
    (∀ n cs, s.phase = .idle → s.commands = .changeTrack n :: cs → 0 ≤ n → n ≤ s.subsongCount.toNat →
      ∃ t, step s = .next t ∧ EnteredRoutine s.initAddr (BitVec.ofInt 8 n) .trackInit
        { s with commands := cs, ready := false, currentTrack := BitVec.ofInt 8 n, trackWritten := true } t) ∧
    (∀ total, s.phase = .call .trackInit total → s.pc ≤ 1 →
      ∃ t, step s = .next t ∧ EnteredRoutine s.playAddr 0 (.play .changeTrack)
        { s with finished := false, samplesToNextFrame := some 0 } t) ∧
    (∀ total, s.phase = .call (.play .changeTrack) total → s.pc ≤ 1 → s.samplesToNextFrame = some 0 →
      step s = .next { s with
        ready := true, samplesPerFrame := nextFrameSamples s, samplesToNextFrame := some (nextFrameSamples s)
        phase := .idle, replies := s.replies ++ [.completed] })

/-- A load of a well-formed image replaces all of Mem, latches its arguments, sets loaded and clears ready and
finished. With playAddr 0 it first enters the init routine with A = 0, and on its return takes the play address
from 0x0314 (low) and 0x0315 (high). Then ChipPoke(24, 15) is emitted and the start track is selected: its init
routine is entered with the track in A, or, if it is above subsongCount, nothing more happens and the command is
done. What is the model's reading there: the counters, null included, and currentTrack keep the values of the
session before (R263 followed against R285 (b), notes/assumptions/14.md), and the new session counts as having
selected no track yet (notes/assumptions/13.md). (49_playback_scheduler.md R263, 49_playback_scheduler.md R264,
49_playback_scheduler.md R265, 49_playback_scheduler.md R266.) -/
def Obligations.LoadStages : Prop :=
  (∀ (s : State) (image : Memory) (initAddr playAddr : Word) (startTrack subsongCount speedFlag : Byte)
      (cs : List HostCommand), s.phase = .idle →
    s.commands = .load image initAddr playAddr startTrack subsongCount speedFlag :: cs → Memory.wf image = true →
    ∀ u : State, u = { s with
        commands := cs, mem := image, initAddr := initAddr, playAddr := playAddr, startTrack := startTrack
        subsongCount := subsongCount, speedFlag := speedFlag, loaded := true, ready := false, finished := false
        trackWritten := false } →
    (playAddr = 0 → ∃ t, step s = .next t ∧ EnteredRoutine initAddr 0 .loadVector u t) ∧
    (playAddr ≠ 0 → startTrack ≤ subsongCount → ∃ t, step s = .next t ∧ EnteredRoutine initAddr startTrack .trackInit
      { u with chip := s.chip ++ [.poke 24 15], currentTrack := startTrack, trackWritten := true } t) ∧
    (playAddr ≠ 0 → subsongCount < startTrack → step s = .next { u with
      chip := s.chip ++ [.poke 24 15], replies := s.replies ++ [.completed] })) ∧
  ∀ (s : State) (total : Nat) (u : State), MemoryInv s → s.phase = .call .loadVector total → s.pc ≤ 1 →
    s.loaded = true →
    u = { s with
      playAddr := BitVec.ofNat 16 ((memRead s 0x0314).toNat + 256 * (memRead s 0x0315).toNat)
      chip := s.chip ++ [.poke 24 15] } →
    (s.startTrack ≤ s.subsongCount → ∃ t, step s = .next t ∧ EnteredRoutine s.initAddr s.startTrack .trackInit
      { u with ready := false, currentTrack := s.startTrack, trackWritten := true } t) ∧
    (s.subsongCount < s.startTrack →
      step s = .next { u with phase := .idle, replies := s.replies ++ [.completed] })

/-- advanceFrame() does nothing on an unloaded session; on a loaded one that is not finished it enters the play
routine with A = 0; when that returns, samplesPerFrame is floor(rate * frameUS / 1000000), with frameUS from the
latch bytes and the speed flag as R269 says, and is added to the counter. (49_playback_scheduler.md R268,
49_playback_scheduler.md R269, 49_playback_scheduler.md R270, 49_playback_scheduler.md R284.) -/
def Obligations.AdvanceFrame : Prop :=
  ∀ s : State, MemoryInv s →
    (∀ cs, s.phase = .idle → s.commands = .advanceFrame :: cs → s.loaded = false →
      step s = .next { s with commands := cs, replies := s.replies ++ [.completed] }) ∧
    (∀ cs, s.phase = .idle → s.commands = .advanceFrame :: cs → s.loaded = true → s.finished = false →
      ∃ t, step s = .next t ∧ EnteredRoutine s.playAddr 0 (.play .host) { s with commands := cs } t) ∧
    ∀ (total k us n : Nat), s.pc ≤ 1 → s.samplesToNextFrame = some k →
      us = (let timer := (memRead s s.cfg.ciaTimerLo).toNat + 256 * (memRead s s.cfg.ciaTimerHi).toNat
        if timer = 0 ∨ s.speedFlag = 0 then 20000 else 20000 * timer / 19456) →
      n = s.cfg.sampleRate * us / 1000000 →
      (s.phase = .call (.play .host) total → step s = .next { s with
        samplesPerFrame := n, samplesToNextFrame := some (k + n)
        phase := .idle, replies := s.replies ++ [.completed] }) ∧
      ∀ remaining written offset, s.phase = .call (.play (.fill remaining written offset)) total →
        step s = .next { s with
          samplesPerFrame := n, samplesToNextFrame := some (k + n), phase := .filling remaining written offset }

/-- advanceFrame() on a loaded session that is finished emits ChipPoke(k, 0) for k from 0 to 24 in ascending order
and nothing else, sets the counter to null, leaves finished set, runs no instruction and changes no byte of
memory. (49_playback_scheduler.md R271, 20_memory.md R67.) -/
def Obligations.TerminalTransition : Prop :=
  ∀ (s : State) (cs : List HostCommand), s.phase = .idle → s.commands = .advanceFrame :: cs → s.loaded = true →
    s.finished = true → step s = .next { s with
      chip := s.chip ++ (List.range 25).map fun k => ChipEvent.poke (BitVec.ofNat 5 k) 0
      samplesToNextFrame := none, commands := cs, replies := s.replies ++ [.completed] }

/-- For a 16-bit timer value the frame is 20000 microseconds when the value or the speed flag is 0, and otherwise
floor(20000 * value / 19456), which is between 1 and 67367; at 44100 samples a second it has no samples exactly
when it is 22 microseconds or less; and every row of the table of R281 comes out, in microseconds and in samples
at 44100 and at 48000. (49_playback_scheduler.md R269, 49_playback_scheduler.md R281.) -/
def Obligations.FrameLength : Prop :=
  (∀ (timer : Nat) (speedFlag : Byte), timer < 65536 →
    (timer = 0 ∨ speedFlag = 0 → frameMicros timer speedFlag = 20000) ∧
    (timer ≠ 0 → speedFlag ≠ 0 → frameMicros timer speedFlag = 20000 * timer / 19456 ∧
      1 ≤ frameMicros timer speedFlag ∧ frameMicros timer speedFlag ≤ 67367)) ∧
  (∀ us : Nat, frameSamples 44100 us = 0 ↔ us ≤ 22) ∧
  ∀ row ∈ frameTable, ∀ speedFlag : Byte, speedFlag ≠ 0 →
    let us := frameMicros row.timerValue speedFlag
    us = row.frameUS ∧ frameSamples 44100 us = row.at44100 ∧ frameSamples 48000 us = row.at48000

/-- fill on a ready session starts with the whole request remaining. While the counter k is not null and at most the
remaining request, k = 0 sends no request and otherwise exactly ChipRender(k, offset + written * stride) is
emitted; the answer g, at most k (the one listed, if one that small is), is taken off both the request and the
counter and added to the total; the play routine is entered. (49_playback_scheduler.md R273,
49_playback_scheduler.md R274, 49_playback_scheduler.md R275, 49_playback_scheduler.md R261.) -/
def Obligations.FillStartsAndBoundarySegment : Prop :=
  ∀ s : State, MemoryInv s → s.loaded = true → s.ready = true → s.finished = false →
    (∀ n offset cs, s.phase = .idle → s.commands = .fill n offset :: cs →
      step s = .next { s with commands := cs, phase := .filling n 0 offset }) ∧
    ∀ remaining written offset k, s.phase = .filling remaining written offset → s.samplesToNextFrame = some k →
      k ≤ remaining →
      (k = 0 → ∃ t, step s = .next t ∧
        EnteredRoutine s.playAddr 0 (.play (.fill remaining written offset)) s t) ∧
      (0 < k → ∃ g t, g ≤ k ∧ (∀ a, s.answers.head? = some a → a ≤ k → g = a) ∧ step s = .next t ∧
        EnteredRoutine s.playAddr 0 (.play (.fill (remaining - g) (written + g) offset)) { s with
          chip := s.chip ++ [.render k (offset + written * s.cfg.sampleStride)]
          samplesToNextFrame := some (k - g), answers := s.answers.tail, draws := t.draws } t)

/-- Once the counter is null or above the remaining request, exactly ChipRender(remaining, offset + written *
stride) is emitted if anything remains, its answer g (at most remaining; the one listed, if one that small is)
is added to the total and taken off the counter; fill returns the total, and if it is 0 clears ready and sets
finished, with no mute and the counter kept. (49_playback_scheduler.md R275, 49_playback_scheduler.md R276,
49_playback_scheduler.md R277, 49_playback_scheduler.md R261.) -/
def Obligations.FillFinalSegment : Prop :=
  ∀ (s : State) (remaining written offset : Nat), s.phase = .filling remaining written offset →
    (∀ k, s.samplesToNextFrame = some k → remaining < k) →
    (remaining = 0 → step s = .next { s with
      ready := if written = 0 then false else s.ready
      finished := if written = 0 then true else s.finished
      phase := .idle, replies := s.replies ++ [.samples written] }) ∧
    (0 < remaining → ∃ g t, g ≤ remaining ∧ (∀ a, s.answers.head? = some a → a ≤ remaining → g = a) ∧
      step s = .next t ∧ t = { s with
        chip := s.chip ++ [.render remaining (offset + written * s.cfg.sampleStride)]
        samplesToNextFrame := s.samplesToNextFrame.map (· - g), answers := s.answers.tail, draws := t.draws
        ready := if written + g = 0 then false else s.ready
        finished := if written + g = 0 then true else s.finished
        phase := .idle, replies := s.replies ++ [.samples (written + g)] })

/-- If a null counter means finished before a step, it does after it, or the step accepts a load that replaces a
finished session with a null counter, and then the new session is not ready (that such a load keeps the null is
R263 followed against R285 (b), notes/assumptions/14.md). In any state with a null counter and finished clear, a
fill returns 0 and changes nothing else, so the counter is not seen. (49_playback_scheduler.md R285,
49_playback_scheduler.md R263, 49_playback_scheduler.md R272.) -/
def Obligations.NullCounterMeansFinished : Prop :=
  ∀ s t : State, SequencerInv s → step s = .next t →
    ((s.samplesToNextFrame = none → s.finished = true) → t.samplesToNextFrame = none → t.finished = true ∨
      s.acceptsLoad = true ∧ s.samplesToNextFrame = none ∧ s.finished = true ∧ t.ready = false) ∧
    (s.samplesToNextFrame = none → s.finished = false → ∀ n offset cs, s.phase = .idle →
      s.commands = .fill n offset :: cs → t = { s with commands := cs, replies := s.replies ++ [.samples 0] })
end

