-- ==== Sys2Proof/Laws/Codec.lean ====
section
/-! SUPPORT. The small lemmas of decoding: what three bytes decode to, and which opcode bytes are undocumented. -/

namespace Sys2Proof

/-- Three bytes always start with an instruction (R83). -/
theorem decode_three (op b1 b2 : Byte) (rest : List Byte) :
    ∃ rest', decode (op :: b1 :: b2 :: rest) = .ok (decodeInstr op b1 b2, rest') := by
  simp only [decode, decodeInstr]
  cases tableEntry op <;> simp

/-- The host's reading of a table word is the decoder's. -/
theorem decodeTableWord_eq (nbits w : Nat) :
    decodeTableWord nbits w = some (decodeInstr (wordByte (w % 2 ^ nbits) 0) (wordByte (w % 2 ^ nbits) 1)
      (wordByte (w % 2 ^ nbits) 2)) := by
  obtain ⟨rest', h⟩ := decode_three (wordByte (w % 2 ^ nbits) 0) (wordByte (w % 2 ^ nbits) 1)
    (wordByte (w % 2 ^ nbits) 2) []
  simp only [decodeTableWord, tableWordBytes, h]

theorem joinBytes_toNat (hi lo : Byte) : (joinBytes hi lo).toNat = hi.toNat * 256 + lo.toNat := by
  have h1 := hi.isLt
  have h2 := lo.isLt
  simp only [joinBytes, BitVec.toNat_ofNat]
  omega

theorem highByte_toNat (w : Word) : (highByte w).toNat = w.toNat / 256 := by
  have h := w.isLt
  simp only [highByte, BitVec.extractLsb'_toNat, Nat.shiftRight_eq_div_pow]
  omega

theorem lowByte_toNat (w : Word) : (lowByte w).toNat = w.toNat % 256 := by
  simp [lowByte, BitVec.extractLsb'_toNat]

@[simp] theorem joinBytes_high_low (w : Word) : joinBytes (highByte w) (lowByte w) = w := by
  apply BitVec.eq_of_toNat_eq
  rw [joinBytes_toNat, highByte_toNat, lowByte_toNat]
  omega

@[simp] theorem highByte_joinBytes (hi lo : Byte) : highByte (joinBytes hi lo) = hi := by
  have := lo.isLt
  apply BitVec.eq_of_toNat_eq
  rw [highByte_toNat, joinBytes_toNat]
  omega

@[simp] theorem lowByte_joinBytes (hi lo : Byte) : lowByte (joinBytes hi lo) = lo := by
  have := lo.isLt
  apply BitVec.eq_of_toNat_eq
  rw [lowByte_toNat, joinBytes_toNat]
  omega

/-! ### Decoding by format (R81) -/

theorem decode_f1 {op : Byte} {i : Instr} (h : tableEntry op = .f1 i) (rest : List Byte) :
    decode (op :: rest) = .ok (i, rest) := by
  simp only [decode, h]

theorem decode_undoc {op : Byte} (h : tableEntry op = .undoc) (rest : List Byte) :
    decode (op :: rest) = .ok (.ill op, rest) := by
  simp only [decode, h]

theorem decode_f2 {op : Byte} {f : Byte → Instr} (h : tableEntry op = .f2 f) (b : Byte) (rest : List Byte) :
    decode (op :: b :: rest) = .ok (f b, rest) := by
  simp only [decode, h]

theorem decode_f3 {op : Byte} {f : Word → Instr} (h : tableEntry op = .f3 f) (w : Word) (rest : List Byte) :
    decode (op :: (operand16 w ++ rest)) = .ok (f w, rest) := by
  simp only [operand16, List.cons_append, List.nil_append, decode, h, joinBytes_high_low]

/-- The undocumented bytes of R87 are the empty cells of the grid of R86. -/
theorem tableEntry_undoc_iff (op : Byte) : tableEntry op = .undoc ↔ isUndocumented op = true := by
  have h : ∀ op : Byte, (match tableEntry op with | .undoc => true | _ => false) = isUndocumented op := by decide
  rw [← h op]
  cases tableEntry op <;> simp

end Sys2Proof
end

