-- ==== Sys2Proof/Laws/State.lean ====
section
/-! SUPPORT. What each update of the state does to each field, one lemma a field and update, so that no later proof
unfolds a record update. -/

namespace Sys2Proof.Machine

variable (s : State)

/-! ### `State.setA` -/

@[simp] theorem State.setA_a (v : Byte) : (s.setA v).a = v := rfl
@[simp] theorem State.setA_x (v : Byte) : (s.setA v).x = s.x := rfl
@[simp] theorem State.setA_y (v : Byte) : (s.setA v).y = s.y := rfl
@[simp] theorem State.setA_sp (v : Byte) : (s.setA v).sp = s.sp := rfl
@[simp] theorem State.setA_p (v : Byte) : (s.setA v).p = s.p := rfl
@[simp] theorem State.setA_pc (v : Byte) : (s.setA v).pc = s.pc := rfl
@[simp] theorem State.setA_cyc (v : Byte) : (s.setA v).cyc = s.cyc := rfl
@[simp] theorem State.setA_mem (v : Byte) : (s.setA v).mem = s.mem := rfl
@[simp] theorem State.setA_chip (v : Byte) : (s.setA v).chip = s.chip := rfl
@[simp] theorem State.setA_loaded (v : Byte) : (s.setA v).loaded = s.loaded := rfl
@[simp] theorem State.setA_ready (v : Byte) : (s.setA v).ready = s.ready := rfl
@[simp] theorem State.setA_finished (v : Byte) : (s.setA v).finished = s.finished := rfl
@[simp] theorem State.setA_samplesPerFrame (v : Byte) : (s.setA v).samplesPerFrame = s.samplesPerFrame := rfl
@[simp] theorem State.setA_samplesToNextFrame (v : Byte) : (s.setA v).samplesToNextFrame = s.samplesToNextFrame := rfl
@[simp] theorem State.setA_currentTrack (v : Byte) : (s.setA v).currentTrack = s.currentTrack := rfl
@[simp] theorem State.setA_trackWritten (v : Byte) : (s.setA v).trackWritten = s.trackWritten := rfl
@[simp] theorem State.setA_subsongCount (v : Byte) : (s.setA v).subsongCount = s.subsongCount := rfl
@[simp] theorem State.setA_startTrack (v : Byte) : (s.setA v).startTrack = s.startTrack := rfl
@[simp] theorem State.setA_speedFlag (v : Byte) : (s.setA v).speedFlag = s.speedFlag := rfl
@[simp] theorem State.setA_initAddr (v : Byte) : (s.setA v).initAddr = s.initAddr := rfl
@[simp] theorem State.setA_playAddr (v : Byte) : (s.setA v).playAddr = s.playAddr := rfl
@[simp] theorem State.setA_phase (v : Byte) : (s.setA v).phase = s.phase := rfl
@[simp] theorem State.setA_commands (v : Byte) : (s.setA v).commands = s.commands := rfl
@[simp] theorem State.setA_replies (v : Byte) : (s.setA v).replies = s.replies := rfl
@[simp] theorem State.setA_answers (v : Byte) : (s.setA v).answers = s.answers := rfl
@[simp] theorem State.setA_draws (v : Byte) : (s.setA v).draws = s.draws := rfl
@[simp] theorem State.setA_cfg (v : Byte) : (s.setA v).cfg = s.cfg := rfl
@[simp] theorem memRead_setA (v : Byte) (c : Word) : memRead (s.setA v) c = memRead s c := rfl

/-! ### `State.setX` -/

@[simp] theorem State.setX_a (v : Byte) : (s.setX v).a = s.a := rfl
@[simp] theorem State.setX_x (v : Byte) : (s.setX v).x = v := rfl
@[simp] theorem State.setX_y (v : Byte) : (s.setX v).y = s.y := rfl
@[simp] theorem State.setX_sp (v : Byte) : (s.setX v).sp = s.sp := rfl
@[simp] theorem State.setX_p (v : Byte) : (s.setX v).p = s.p := rfl
@[simp] theorem State.setX_pc (v : Byte) : (s.setX v).pc = s.pc := rfl
@[simp] theorem State.setX_cyc (v : Byte) : (s.setX v).cyc = s.cyc := rfl
@[simp] theorem State.setX_mem (v : Byte) : (s.setX v).mem = s.mem := rfl
@[simp] theorem State.setX_chip (v : Byte) : (s.setX v).chip = s.chip := rfl
@[simp] theorem State.setX_loaded (v : Byte) : (s.setX v).loaded = s.loaded := rfl
@[simp] theorem State.setX_ready (v : Byte) : (s.setX v).ready = s.ready := rfl
@[simp] theorem State.setX_finished (v : Byte) : (s.setX v).finished = s.finished := rfl
@[simp] theorem State.setX_samplesPerFrame (v : Byte) : (s.setX v).samplesPerFrame = s.samplesPerFrame := rfl
@[simp] theorem State.setX_samplesToNextFrame (v : Byte) : (s.setX v).samplesToNextFrame = s.samplesToNextFrame := rfl
@[simp] theorem State.setX_currentTrack (v : Byte) : (s.setX v).currentTrack = s.currentTrack := rfl
@[simp] theorem State.setX_trackWritten (v : Byte) : (s.setX v).trackWritten = s.trackWritten := rfl
@[simp] theorem State.setX_subsongCount (v : Byte) : (s.setX v).subsongCount = s.subsongCount := rfl
@[simp] theorem State.setX_startTrack (v : Byte) : (s.setX v).startTrack = s.startTrack := rfl
@[simp] theorem State.setX_speedFlag (v : Byte) : (s.setX v).speedFlag = s.speedFlag := rfl
@[simp] theorem State.setX_initAddr (v : Byte) : (s.setX v).initAddr = s.initAddr := rfl
@[simp] theorem State.setX_playAddr (v : Byte) : (s.setX v).playAddr = s.playAddr := rfl
@[simp] theorem State.setX_phase (v : Byte) : (s.setX v).phase = s.phase := rfl
@[simp] theorem State.setX_commands (v : Byte) : (s.setX v).commands = s.commands := rfl
@[simp] theorem State.setX_replies (v : Byte) : (s.setX v).replies = s.replies := rfl
@[simp] theorem State.setX_answers (v : Byte) : (s.setX v).answers = s.answers := rfl
@[simp] theorem State.setX_draws (v : Byte) : (s.setX v).draws = s.draws := rfl
@[simp] theorem State.setX_cfg (v : Byte) : (s.setX v).cfg = s.cfg := rfl
@[simp] theorem memRead_setX (v : Byte) (c : Word) : memRead (s.setX v) c = memRead s c := rfl

/-! ### `State.setY` -/

@[simp] theorem State.setY_a (v : Byte) : (s.setY v).a = s.a := rfl
@[simp] theorem State.setY_x (v : Byte) : (s.setY v).x = s.x := rfl
@[simp] theorem State.setY_y (v : Byte) : (s.setY v).y = v := rfl
@[simp] theorem State.setY_sp (v : Byte) : (s.setY v).sp = s.sp := rfl
@[simp] theorem State.setY_p (v : Byte) : (s.setY v).p = s.p := rfl
@[simp] theorem State.setY_pc (v : Byte) : (s.setY v).pc = s.pc := rfl
@[simp] theorem State.setY_cyc (v : Byte) : (s.setY v).cyc = s.cyc := rfl
@[simp] theorem State.setY_mem (v : Byte) : (s.setY v).mem = s.mem := rfl
@[simp] theorem State.setY_chip (v : Byte) : (s.setY v).chip = s.chip := rfl
@[simp] theorem State.setY_loaded (v : Byte) : (s.setY v).loaded = s.loaded := rfl
@[simp] theorem State.setY_ready (v : Byte) : (s.setY v).ready = s.ready := rfl
@[simp] theorem State.setY_finished (v : Byte) : (s.setY v).finished = s.finished := rfl
@[simp] theorem State.setY_samplesPerFrame (v : Byte) : (s.setY v).samplesPerFrame = s.samplesPerFrame := rfl
@[simp] theorem State.setY_samplesToNextFrame (v : Byte) : (s.setY v).samplesToNextFrame = s.samplesToNextFrame := rfl
@[simp] theorem State.setY_currentTrack (v : Byte) : (s.setY v).currentTrack = s.currentTrack := rfl
@[simp] theorem State.setY_trackWritten (v : Byte) : (s.setY v).trackWritten = s.trackWritten := rfl
@[simp] theorem State.setY_subsongCount (v : Byte) : (s.setY v).subsongCount = s.subsongCount := rfl
@[simp] theorem State.setY_startTrack (v : Byte) : (s.setY v).startTrack = s.startTrack := rfl
@[simp] theorem State.setY_speedFlag (v : Byte) : (s.setY v).speedFlag = s.speedFlag := rfl
@[simp] theorem State.setY_initAddr (v : Byte) : (s.setY v).initAddr = s.initAddr := rfl
@[simp] theorem State.setY_playAddr (v : Byte) : (s.setY v).playAddr = s.playAddr := rfl
@[simp] theorem State.setY_phase (v : Byte) : (s.setY v).phase = s.phase := rfl
@[simp] theorem State.setY_commands (v : Byte) : (s.setY v).commands = s.commands := rfl
@[simp] theorem State.setY_replies (v : Byte) : (s.setY v).replies = s.replies := rfl
@[simp] theorem State.setY_answers (v : Byte) : (s.setY v).answers = s.answers := rfl
@[simp] theorem State.setY_draws (v : Byte) : (s.setY v).draws = s.draws := rfl
@[simp] theorem State.setY_cfg (v : Byte) : (s.setY v).cfg = s.cfg := rfl
@[simp] theorem memRead_setY (v : Byte) (c : Word) : memRead (s.setY v) c = memRead s c := rfl

/-! ### `State.setSp` -/

@[simp] theorem State.setSp_a (v : Byte) : (s.setSp v).a = s.a := rfl
@[simp] theorem State.setSp_x (v : Byte) : (s.setSp v).x = s.x := rfl
@[simp] theorem State.setSp_y (v : Byte) : (s.setSp v).y = s.y := rfl
@[simp] theorem State.setSp_sp (v : Byte) : (s.setSp v).sp = v := rfl
@[simp] theorem State.setSp_p (v : Byte) : (s.setSp v).p = s.p := rfl
@[simp] theorem State.setSp_pc (v : Byte) : (s.setSp v).pc = s.pc := rfl
@[simp] theorem State.setSp_cyc (v : Byte) : (s.setSp v).cyc = s.cyc := rfl
@[simp] theorem State.setSp_mem (v : Byte) : (s.setSp v).mem = s.mem := rfl
@[simp] theorem State.setSp_chip (v : Byte) : (s.setSp v).chip = s.chip := rfl
@[simp] theorem State.setSp_loaded (v : Byte) : (s.setSp v).loaded = s.loaded := rfl
@[simp] theorem State.setSp_ready (v : Byte) : (s.setSp v).ready = s.ready := rfl
@[simp] theorem State.setSp_finished (v : Byte) : (s.setSp v).finished = s.finished := rfl
@[simp] theorem State.setSp_samplesPerFrame (v : Byte) : (s.setSp v).samplesPerFrame = s.samplesPerFrame := rfl
@[simp] theorem State.setSp_samplesToNextFrame (v : Byte) : (s.setSp v).samplesToNextFrame = s.samplesToNextFrame := rfl
@[simp] theorem State.setSp_currentTrack (v : Byte) : (s.setSp v).currentTrack = s.currentTrack := rfl
@[simp] theorem State.setSp_trackWritten (v : Byte) : (s.setSp v).trackWritten = s.trackWritten := rfl
@[simp] theorem State.setSp_subsongCount (v : Byte) : (s.setSp v).subsongCount = s.subsongCount := rfl
@[simp] theorem State.setSp_startTrack (v : Byte) : (s.setSp v).startTrack = s.startTrack := rfl
@[simp] theorem State.setSp_speedFlag (v : Byte) : (s.setSp v).speedFlag = s.speedFlag := rfl
@[simp] theorem State.setSp_initAddr (v : Byte) : (s.setSp v).initAddr = s.initAddr := rfl
@[simp] theorem State.setSp_playAddr (v : Byte) : (s.setSp v).playAddr = s.playAddr := rfl
@[simp] theorem State.setSp_phase (v : Byte) : (s.setSp v).phase = s.phase := rfl
@[simp] theorem State.setSp_commands (v : Byte) : (s.setSp v).commands = s.commands := rfl
@[simp] theorem State.setSp_replies (v : Byte) : (s.setSp v).replies = s.replies := rfl
@[simp] theorem State.setSp_answers (v : Byte) : (s.setSp v).answers = s.answers := rfl
@[simp] theorem State.setSp_draws (v : Byte) : (s.setSp v).draws = s.draws := rfl
@[simp] theorem State.setSp_cfg (v : Byte) : (s.setSp v).cfg = s.cfg := rfl
@[simp] theorem memRead_setSp (v : Byte) (c : Word) : memRead (s.setSp v) c = memRead s c := rfl

/-! ### `State.setP` -/

@[simp] theorem State.setP_a (v : Byte) : (s.setP v).a = s.a := rfl
@[simp] theorem State.setP_x (v : Byte) : (s.setP v).x = s.x := rfl
@[simp] theorem State.setP_y (v : Byte) : (s.setP v).y = s.y := rfl
@[simp] theorem State.setP_sp (v : Byte) : (s.setP v).sp = s.sp := rfl
@[simp] theorem State.setP_p (v : Byte) : (s.setP v).p = v := rfl
@[simp] theorem State.setP_pc (v : Byte) : (s.setP v).pc = s.pc := rfl
@[simp] theorem State.setP_cyc (v : Byte) : (s.setP v).cyc = s.cyc := rfl
@[simp] theorem State.setP_mem (v : Byte) : (s.setP v).mem = s.mem := rfl
@[simp] theorem State.setP_chip (v : Byte) : (s.setP v).chip = s.chip := rfl
@[simp] theorem State.setP_loaded (v : Byte) : (s.setP v).loaded = s.loaded := rfl
@[simp] theorem State.setP_ready (v : Byte) : (s.setP v).ready = s.ready := rfl
@[simp] theorem State.setP_finished (v : Byte) : (s.setP v).finished = s.finished := rfl
@[simp] theorem State.setP_samplesPerFrame (v : Byte) : (s.setP v).samplesPerFrame = s.samplesPerFrame := rfl
@[simp] theorem State.setP_samplesToNextFrame (v : Byte) : (s.setP v).samplesToNextFrame = s.samplesToNextFrame := rfl
@[simp] theorem State.setP_currentTrack (v : Byte) : (s.setP v).currentTrack = s.currentTrack := rfl
@[simp] theorem State.setP_trackWritten (v : Byte) : (s.setP v).trackWritten = s.trackWritten := rfl
@[simp] theorem State.setP_subsongCount (v : Byte) : (s.setP v).subsongCount = s.subsongCount := rfl
@[simp] theorem State.setP_startTrack (v : Byte) : (s.setP v).startTrack = s.startTrack := rfl
@[simp] theorem State.setP_speedFlag (v : Byte) : (s.setP v).speedFlag = s.speedFlag := rfl
@[simp] theorem State.setP_initAddr (v : Byte) : (s.setP v).initAddr = s.initAddr := rfl
@[simp] theorem State.setP_playAddr (v : Byte) : (s.setP v).playAddr = s.playAddr := rfl
@[simp] theorem State.setP_phase (v : Byte) : (s.setP v).phase = s.phase := rfl
@[simp] theorem State.setP_commands (v : Byte) : (s.setP v).commands = s.commands := rfl
@[simp] theorem State.setP_replies (v : Byte) : (s.setP v).replies = s.replies := rfl
@[simp] theorem State.setP_answers (v : Byte) : (s.setP v).answers = s.answers := rfl
@[simp] theorem State.setP_draws (v : Byte) : (s.setP v).draws = s.draws := rfl
@[simp] theorem State.setP_cfg (v : Byte) : (s.setP v).cfg = s.cfg := rfl
@[simp] theorem memRead_setP (v : Byte) (c : Word) : memRead (s.setP v) c = memRead s c := rfl

/-! ### `State.setPc` -/

@[simp] theorem State.setPc_a (v : Word) : (s.setPc v).a = s.a := rfl
@[simp] theorem State.setPc_x (v : Word) : (s.setPc v).x = s.x := rfl
@[simp] theorem State.setPc_y (v : Word) : (s.setPc v).y = s.y := rfl
@[simp] theorem State.setPc_sp (v : Word) : (s.setPc v).sp = s.sp := rfl
@[simp] theorem State.setPc_p (v : Word) : (s.setPc v).p = s.p := rfl
@[simp] theorem State.setPc_pc (v : Word) : (s.setPc v).pc = v := rfl
@[simp] theorem State.setPc_cyc (v : Word) : (s.setPc v).cyc = s.cyc := rfl
@[simp] theorem State.setPc_mem (v : Word) : (s.setPc v).mem = s.mem := rfl
@[simp] theorem State.setPc_chip (v : Word) : (s.setPc v).chip = s.chip := rfl
@[simp] theorem State.setPc_loaded (v : Word) : (s.setPc v).loaded = s.loaded := rfl
@[simp] theorem State.setPc_ready (v : Word) : (s.setPc v).ready = s.ready := rfl
@[simp] theorem State.setPc_finished (v : Word) : (s.setPc v).finished = s.finished := rfl
@[simp] theorem State.setPc_samplesPerFrame (v : Word) : (s.setPc v).samplesPerFrame = s.samplesPerFrame := rfl
@[simp] theorem State.setPc_samplesToNextFrame (v : Word) : (s.setPc v).samplesToNextFrame = s.samplesToNextFrame := rfl
@[simp] theorem State.setPc_currentTrack (v : Word) : (s.setPc v).currentTrack = s.currentTrack := rfl
@[simp] theorem State.setPc_trackWritten (v : Word) : (s.setPc v).trackWritten = s.trackWritten := rfl
@[simp] theorem State.setPc_subsongCount (v : Word) : (s.setPc v).subsongCount = s.subsongCount := rfl
@[simp] theorem State.setPc_startTrack (v : Word) : (s.setPc v).startTrack = s.startTrack := rfl
@[simp] theorem State.setPc_speedFlag (v : Word) : (s.setPc v).speedFlag = s.speedFlag := rfl
@[simp] theorem State.setPc_initAddr (v : Word) : (s.setPc v).initAddr = s.initAddr := rfl
@[simp] theorem State.setPc_playAddr (v : Word) : (s.setPc v).playAddr = s.playAddr := rfl
@[simp] theorem State.setPc_phase (v : Word) : (s.setPc v).phase = s.phase := rfl
@[simp] theorem State.setPc_commands (v : Word) : (s.setPc v).commands = s.commands := rfl
@[simp] theorem State.setPc_replies (v : Word) : (s.setPc v).replies = s.replies := rfl
@[simp] theorem State.setPc_answers (v : Word) : (s.setPc v).answers = s.answers := rfl
@[simp] theorem State.setPc_draws (v : Word) : (s.setPc v).draws = s.draws := rfl
@[simp] theorem State.setPc_cfg (v : Word) : (s.setPc v).cfg = s.cfg := rfl
@[simp] theorem memRead_setPc (v : Word) (c : Word) : memRead (s.setPc v) c = memRead s c := rfl

/-! ### `State.setMem` -/

@[simp] theorem State.setMem_a (m : Memory) : (s.setMem m).a = s.a := rfl
@[simp] theorem State.setMem_x (m : Memory) : (s.setMem m).x = s.x := rfl
@[simp] theorem State.setMem_y (m : Memory) : (s.setMem m).y = s.y := rfl
@[simp] theorem State.setMem_sp (m : Memory) : (s.setMem m).sp = s.sp := rfl
@[simp] theorem State.setMem_p (m : Memory) : (s.setMem m).p = s.p := rfl
@[simp] theorem State.setMem_pc (m : Memory) : (s.setMem m).pc = s.pc := rfl
@[simp] theorem State.setMem_cyc (m : Memory) : (s.setMem m).cyc = s.cyc := rfl
@[simp] theorem State.setMem_mem (m : Memory) : (s.setMem m).mem = m := rfl
@[simp] theorem State.setMem_chip (m : Memory) : (s.setMem m).chip = s.chip := rfl
@[simp] theorem State.setMem_loaded (m : Memory) : (s.setMem m).loaded = s.loaded := rfl
@[simp] theorem State.setMem_ready (m : Memory) : (s.setMem m).ready = s.ready := rfl
@[simp] theorem State.setMem_finished (m : Memory) : (s.setMem m).finished = s.finished := rfl
@[simp] theorem State.setMem_samplesPerFrame (m : Memory) : (s.setMem m).samplesPerFrame = s.samplesPerFrame := rfl
@[simp] theorem State.setMem_samplesToNextFrame (m : Memory) : (s.setMem m).samplesToNextFrame = s.samplesToNextFrame := rfl
@[simp] theorem State.setMem_currentTrack (m : Memory) : (s.setMem m).currentTrack = s.currentTrack := rfl
@[simp] theorem State.setMem_trackWritten (m : Memory) : (s.setMem m).trackWritten = s.trackWritten := rfl
@[simp] theorem State.setMem_subsongCount (m : Memory) : (s.setMem m).subsongCount = s.subsongCount := rfl
@[simp] theorem State.setMem_startTrack (m : Memory) : (s.setMem m).startTrack = s.startTrack := rfl
@[simp] theorem State.setMem_speedFlag (m : Memory) : (s.setMem m).speedFlag = s.speedFlag := rfl
@[simp] theorem State.setMem_initAddr (m : Memory) : (s.setMem m).initAddr = s.initAddr := rfl
@[simp] theorem State.setMem_playAddr (m : Memory) : (s.setMem m).playAddr = s.playAddr := rfl
@[simp] theorem State.setMem_phase (m : Memory) : (s.setMem m).phase = s.phase := rfl
@[simp] theorem State.setMem_commands (m : Memory) : (s.setMem m).commands = s.commands := rfl
@[simp] theorem State.setMem_replies (m : Memory) : (s.setMem m).replies = s.replies := rfl
@[simp] theorem State.setMem_answers (m : Memory) : (s.setMem m).answers = s.answers := rfl
@[simp] theorem State.setMem_draws (m : Memory) : (s.setMem m).draws = s.draws := rfl
@[simp] theorem State.setMem_cfg (m : Memory) : (s.setMem m).cfg = s.cfg := rfl

/-! ### `State.emit` -/

@[simp] theorem State.emit_a (es : List ChipEvent) : (s.emit es).a = s.a := rfl
@[simp] theorem State.emit_x (es : List ChipEvent) : (s.emit es).x = s.x := rfl
@[simp] theorem State.emit_y (es : List ChipEvent) : (s.emit es).y = s.y := rfl
@[simp] theorem State.emit_sp (es : List ChipEvent) : (s.emit es).sp = s.sp := rfl
@[simp] theorem State.emit_p (es : List ChipEvent) : (s.emit es).p = s.p := rfl
@[simp] theorem State.emit_pc (es : List ChipEvent) : (s.emit es).pc = s.pc := rfl
@[simp] theorem State.emit_cyc (es : List ChipEvent) : (s.emit es).cyc = s.cyc := rfl
@[simp] theorem State.emit_mem (es : List ChipEvent) : (s.emit es).mem = s.mem := rfl
@[simp] theorem State.emit_chip (es : List ChipEvent) : (s.emit es).chip = s.chip ++ es := rfl
@[simp] theorem State.emit_loaded (es : List ChipEvent) : (s.emit es).loaded = s.loaded := rfl
@[simp] theorem State.emit_ready (es : List ChipEvent) : (s.emit es).ready = s.ready := rfl
@[simp] theorem State.emit_finished (es : List ChipEvent) : (s.emit es).finished = s.finished := rfl
@[simp] theorem State.emit_samplesPerFrame (es : List ChipEvent) : (s.emit es).samplesPerFrame = s.samplesPerFrame := rfl
@[simp] theorem State.emit_samplesToNextFrame (es : List ChipEvent) : (s.emit es).samplesToNextFrame = s.samplesToNextFrame := rfl
@[simp] theorem State.emit_currentTrack (es : List ChipEvent) : (s.emit es).currentTrack = s.currentTrack := rfl
@[simp] theorem State.emit_trackWritten (es : List ChipEvent) : (s.emit es).trackWritten = s.trackWritten := rfl
@[simp] theorem State.emit_subsongCount (es : List ChipEvent) : (s.emit es).subsongCount = s.subsongCount := rfl
@[simp] theorem State.emit_startTrack (es : List ChipEvent) : (s.emit es).startTrack = s.startTrack := rfl
@[simp] theorem State.emit_speedFlag (es : List ChipEvent) : (s.emit es).speedFlag = s.speedFlag := rfl
@[simp] theorem State.emit_initAddr (es : List ChipEvent) : (s.emit es).initAddr = s.initAddr := rfl
@[simp] theorem State.emit_playAddr (es : List ChipEvent) : (s.emit es).playAddr = s.playAddr := rfl
@[simp] theorem State.emit_phase (es : List ChipEvent) : (s.emit es).phase = s.phase := rfl
@[simp] theorem State.emit_commands (es : List ChipEvent) : (s.emit es).commands = s.commands := rfl
@[simp] theorem State.emit_replies (es : List ChipEvent) : (s.emit es).replies = s.replies := rfl
@[simp] theorem State.emit_answers (es : List ChipEvent) : (s.emit es).answers = s.answers := rfl
@[simp] theorem State.emit_draws (es : List ChipEvent) : (s.emit es).draws = s.draws := rfl
@[simp] theorem State.emit_cfg (es : List ChipEvent) : (s.emit es).cfg = s.cfg := rfl
@[simp] theorem memRead_emit (es : List ChipEvent) (c : Word) : memRead (s.emit es) c = memRead s c := rfl

/-! ### `State.advance` -/

@[simp] theorem State.advance_a (n k : Nat) : (s.advance n k).a = s.a := rfl
@[simp] theorem State.advance_x (n k : Nat) : (s.advance n k).x = s.x := rfl
@[simp] theorem State.advance_y (n k : Nat) : (s.advance n k).y = s.y := rfl
@[simp] theorem State.advance_sp (n k : Nat) : (s.advance n k).sp = s.sp := rfl
@[simp] theorem State.advance_p (n k : Nat) : (s.advance n k).p = s.p := rfl
@[simp] theorem State.advance_pc (n k : Nat) : (s.advance n k).pc = s.pc + BitVec.ofNat 16 n := rfl
@[simp] theorem State.advance_cyc (n k : Nat) : (s.advance n k).cyc = k := rfl
@[simp] theorem State.advance_mem (n k : Nat) : (s.advance n k).mem = s.mem := rfl
@[simp] theorem State.advance_chip (n k : Nat) : (s.advance n k).chip = s.chip := rfl
@[simp] theorem State.advance_loaded (n k : Nat) : (s.advance n k).loaded = s.loaded := rfl
@[simp] theorem State.advance_ready (n k : Nat) : (s.advance n k).ready = s.ready := rfl
@[simp] theorem State.advance_finished (n k : Nat) : (s.advance n k).finished = s.finished := rfl
@[simp] theorem State.advance_samplesPerFrame (n k : Nat) : (s.advance n k).samplesPerFrame = s.samplesPerFrame := rfl
@[simp] theorem State.advance_samplesToNextFrame (n k : Nat) : (s.advance n k).samplesToNextFrame = s.samplesToNextFrame := rfl
@[simp] theorem State.advance_currentTrack (n k : Nat) : (s.advance n k).currentTrack = s.currentTrack := rfl
@[simp] theorem State.advance_trackWritten (n k : Nat) : (s.advance n k).trackWritten = s.trackWritten := rfl
@[simp] theorem State.advance_subsongCount (n k : Nat) : (s.advance n k).subsongCount = s.subsongCount := rfl
@[simp] theorem State.advance_startTrack (n k : Nat) : (s.advance n k).startTrack = s.startTrack := rfl
@[simp] theorem State.advance_speedFlag (n k : Nat) : (s.advance n k).speedFlag = s.speedFlag := rfl
@[simp] theorem State.advance_initAddr (n k : Nat) : (s.advance n k).initAddr = s.initAddr := rfl
@[simp] theorem State.advance_playAddr (n k : Nat) : (s.advance n k).playAddr = s.playAddr := rfl
@[simp] theorem State.advance_phase (n k : Nat) : (s.advance n k).phase = s.phase := rfl
@[simp] theorem State.advance_commands (n k : Nat) : (s.advance n k).commands = s.commands := rfl
@[simp] theorem State.advance_replies (n k : Nat) : (s.advance n k).replies = s.replies := rfl
@[simp] theorem State.advance_answers (n k : Nat) : (s.advance n k).answers = s.answers := rfl
@[simp] theorem State.advance_draws (n k : Nat) : (s.advance n k).draws = s.draws := rfl
@[simp] theorem State.advance_cfg (n k : Nat) : (s.advance n k).cfg = s.cfg := rfl
@[simp] theorem memRead_advance (n k : Nat) (c : Word) : memRead (s.advance n k) c = memRead s c := rfl

/-! ### The composite updates -/

@[simp] theorem pop_mem : (pop s).mem = s.mem := rfl
@[simp] theorem memRead_pop (c : Word) : memRead (pop s) c = memRead s c := rfl
@[simp] theorem pop_sp : (pop s).sp = spUp s.sp := rfl

@[simp] theorem memWrite_a (c : Word) (b : Byte) : (memWrite c b s).a = s.a := by
  unfold memWrite; split <;> rfl
@[simp] theorem memWrite_x (c : Word) (b : Byte) : (memWrite c b s).x = s.x := by
  unfold memWrite; split <;> rfl
@[simp] theorem memWrite_y (c : Word) (b : Byte) : (memWrite c b s).y = s.y := by
  unfold memWrite; split <;> rfl
@[simp] theorem memWrite_sp (c : Word) (b : Byte) : (memWrite c b s).sp = s.sp := by
  unfold memWrite; split <;> rfl
@[simp] theorem memWrite_p (c : Word) (b : Byte) : (memWrite c b s).p = s.p := by
  unfold memWrite; split <;> rfl
@[simp] theorem memWrite_pc (c : Word) (b : Byte) : (memWrite c b s).pc = s.pc := by
  unfold memWrite; split <;> rfl
@[simp] theorem memWrite_cyc (c : Word) (b : Byte) : (memWrite c b s).cyc = s.cyc := by
  unfold memWrite; split <;> rfl
@[simp] theorem memWrite_loaded (c : Word) (b : Byte) : (memWrite c b s).loaded = s.loaded := by
  unfold memWrite; split <;> rfl
@[simp] theorem memWrite_ready (c : Word) (b : Byte) : (memWrite c b s).ready = s.ready := by
  unfold memWrite; split <;> rfl
@[simp] theorem memWrite_finished (c : Word) (b : Byte) : (memWrite c b s).finished = s.finished := by
  unfold memWrite; split <;> rfl
@[simp] theorem memWrite_samplesPerFrame (c : Word) (b : Byte) : (memWrite c b s).samplesPerFrame = s.samplesPerFrame := by
  unfold memWrite; split <;> rfl
@[simp] theorem memWrite_samplesToNextFrame (c : Word) (b : Byte) : (memWrite c b s).samplesToNextFrame = s.samplesToNextFrame := by
  unfold memWrite; split <;> rfl
@[simp] theorem memWrite_currentTrack (c : Word) (b : Byte) : (memWrite c b s).currentTrack = s.currentTrack := by
  unfold memWrite; split <;> rfl
@[simp] theorem memWrite_trackWritten (c : Word) (b : Byte) : (memWrite c b s).trackWritten = s.trackWritten := by
  unfold memWrite; split <;> rfl
@[simp] theorem memWrite_subsongCount (c : Word) (b : Byte) : (memWrite c b s).subsongCount = s.subsongCount := by
  unfold memWrite; split <;> rfl
@[simp] theorem memWrite_startTrack (c : Word) (b : Byte) : (memWrite c b s).startTrack = s.startTrack := by
  unfold memWrite; split <;> rfl
@[simp] theorem memWrite_speedFlag (c : Word) (b : Byte) : (memWrite c b s).speedFlag = s.speedFlag := by
  unfold memWrite; split <;> rfl
@[simp] theorem memWrite_initAddr (c : Word) (b : Byte) : (memWrite c b s).initAddr = s.initAddr := by
  unfold memWrite; split <;> rfl
@[simp] theorem memWrite_playAddr (c : Word) (b : Byte) : (memWrite c b s).playAddr = s.playAddr := by
  unfold memWrite; split <;> rfl
@[simp] theorem memWrite_phase (c : Word) (b : Byte) : (memWrite c b s).phase = s.phase := by
  unfold memWrite; split <;> rfl
@[simp] theorem memWrite_commands (c : Word) (b : Byte) : (memWrite c b s).commands = s.commands := by
  unfold memWrite; split <;> rfl
@[simp] theorem memWrite_replies (c : Word) (b : Byte) : (memWrite c b s).replies = s.replies := by
  unfold memWrite; split <;> rfl
@[simp] theorem memWrite_answers (c : Word) (b : Byte) : (memWrite c b s).answers = s.answers := by
  unfold memWrite; split <;> rfl
@[simp] theorem memWrite_draws (c : Word) (b : Byte) : (memWrite c b s).draws = s.draws := by
  unfold memWrite; split <;> rfl
@[simp] theorem memWrite_cfg (c : Word) (b : Byte) : (memWrite c b s).cfg = s.cfg := by
  unfold memWrite; split <;> rfl

@[simp] theorem push_a (v : Byte) : (push v s).a = s.a := by simp [push]
@[simp] theorem push_x (v : Byte) : (push v s).x = s.x := by simp [push]
@[simp] theorem push_y (v : Byte) : (push v s).y = s.y := by simp [push]
@[simp] theorem push_p (v : Byte) : (push v s).p = s.p := by simp [push]
@[simp] theorem push_pc (v : Byte) : (push v s).pc = s.pc := by simp [push]
@[simp] theorem push_cyc (v : Byte) : (push v s).cyc = s.cyc := by simp [push]
@[simp] theorem push_loaded (v : Byte) : (push v s).loaded = s.loaded := by simp [push]
@[simp] theorem push_ready (v : Byte) : (push v s).ready = s.ready := by simp [push]
@[simp] theorem push_finished (v : Byte) : (push v s).finished = s.finished := by simp [push]
@[simp] theorem push_samplesPerFrame (v : Byte) : (push v s).samplesPerFrame = s.samplesPerFrame := by simp [push]
@[simp] theorem push_samplesToNextFrame (v : Byte) : (push v s).samplesToNextFrame = s.samplesToNextFrame := by simp [push]
@[simp] theorem push_currentTrack (v : Byte) : (push v s).currentTrack = s.currentTrack := by simp [push]
@[simp] theorem push_trackWritten (v : Byte) : (push v s).trackWritten = s.trackWritten := by simp [push]
@[simp] theorem push_subsongCount (v : Byte) : (push v s).subsongCount = s.subsongCount := by simp [push]
@[simp] theorem push_startTrack (v : Byte) : (push v s).startTrack = s.startTrack := by simp [push]
@[simp] theorem push_speedFlag (v : Byte) : (push v s).speedFlag = s.speedFlag := by simp [push]
@[simp] theorem push_initAddr (v : Byte) : (push v s).initAddr = s.initAddr := by simp [push]
@[simp] theorem push_playAddr (v : Byte) : (push v s).playAddr = s.playAddr := by simp [push]
@[simp] theorem push_phase (v : Byte) : (push v s).phase = s.phase := by simp [push]
@[simp] theorem push_commands (v : Byte) : (push v s).commands = s.commands := by simp [push]
@[simp] theorem push_replies (v : Byte) : (push v s).replies = s.replies := by simp [push]
@[simp] theorem push_answers (v : Byte) : (push v s).answers = s.answers := by simp [push]
@[simp] theorem push_draws (v : Byte) : (push v s).draws = s.draws := by simp [push]
@[simp] theorem push_cfg (v : Byte) : (push v s).cfg = s.cfg := by simp [push]
@[simp] theorem push_sp (v : Byte) : (push v s).sp = spDown s.sp := by simp [push]
@[simp] theorem pop_a : (pop s).a = s.a := rfl
@[simp] theorem pop_x : (pop s).x = s.x := rfl
@[simp] theorem pop_y : (pop s).y = s.y := rfl
@[simp] theorem pop_p : (pop s).p = s.p := rfl
@[simp] theorem pop_pc : (pop s).pc = s.pc := rfl
@[simp] theorem pop_cyc : (pop s).cyc = s.cyc := rfl
@[simp] theorem pop_chip : (pop s).chip = s.chip := rfl
@[simp] theorem pop_loaded : (pop s).loaded = s.loaded := rfl
@[simp] theorem pop_ready : (pop s).ready = s.ready := rfl
@[simp] theorem pop_finished : (pop s).finished = s.finished := rfl
@[simp] theorem pop_samplesPerFrame : (pop s).samplesPerFrame = s.samplesPerFrame := rfl
@[simp] theorem pop_samplesToNextFrame : (pop s).samplesToNextFrame = s.samplesToNextFrame := rfl
@[simp] theorem pop_currentTrack : (pop s).currentTrack = s.currentTrack := rfl
@[simp] theorem pop_trackWritten : (pop s).trackWritten = s.trackWritten := rfl
@[simp] theorem pop_subsongCount : (pop s).subsongCount = s.subsongCount := rfl
@[simp] theorem pop_startTrack : (pop s).startTrack = s.startTrack := rfl
@[simp] theorem pop_speedFlag : (pop s).speedFlag = s.speedFlag := rfl
@[simp] theorem pop_initAddr : (pop s).initAddr = s.initAddr := rfl
@[simp] theorem pop_playAddr : (pop s).playAddr = s.playAddr := rfl
@[simp] theorem pop_phase : (pop s).phase = s.phase := rfl
@[simp] theorem pop_commands : (pop s).commands = s.commands := rfl
@[simp] theorem pop_replies : (pop s).replies = s.replies := rfl
@[simp] theorem pop_answers : (pop s).answers = s.answers := rfl
@[simp] theorem pop_draws : (pop s).draws = s.draws := rfl
@[simp] theorem pop_cfg : (pop s).cfg = s.cfg := rfl

end Sys2Proof.Machine
end

