-- ==== Sys2Proof/Laws/Memory.lean ====
section
/-! SUPPORT. The laws of the Memory Image: read after write, and that every write keeps the canonical form; then the
same of the write path and the stack. -/

namespace Sys2Proof.Machine

/-- Canonical form from an address up is canonical form from any lower one. -/
theorem Memory.wfFrom_mono {lo lo' : Nat} (h : lo' ≤ lo) {m : Memory} (hm : Memory.wfFrom lo m = true) :
    Memory.wfFrom lo' m = true := by
  cases m with
  | nil => rfl
  | cons c rest =>
    obtain ⟨k, v⟩ := c
    simp only [Memory.wfFrom, Bool.and_eq_true, decide_eq_true_eq] at hm ⊢
    exact ⟨⟨⟨by omega, hm.1.1.2⟩, hm.1.2⟩, hm.2⟩

/-- Below the lowest listed address everything reads as unlisted. -/
theorem Memory.read_below {lo : Nat} {m : Memory} (hm : Memory.wfFrom lo m = true) {a : Nat} (ha : a < lo) :
    Memory.read m a = unlistedByte := by
  induction m generalizing lo with
  | nil => rfl
  | cons c rest ih =>
    obtain ⟨k, v⟩ := c
    simp only [Memory.wfFrom, Bool.and_eq_true, decide_eq_true_eq] at hm
    have hk : k ≠ a := by omega
    simp only [Memory.read, if_neg hk]
    exact ih hm.2 (by omega)

/-- Read after write, on a memory in canonical form. -/
theorem Memory.read_write {lo : Nat} {m : Memory} (hm : Memory.wfFrom lo m = true) (a c : Nat) (b : Byte) :
    Memory.read (Memory.write m a b) c = if c = a then b else Memory.read m c := by
  induction m generalizing lo with
  | nil =>
    by_cases hc : c = a
    · subst hc
      by_cases hb : b = unlistedByte <;> simp [Memory.write, Memory.read, hb]
    · have hc' : ¬a = c := fun h => hc h.symm
      by_cases hb : b = unlistedByte <;> simp [Memory.write, Memory.read, hb, hc, hc']
  | cons d rest ih =>
    obtain ⟨k, v⟩ := d
    simp only [Memory.wfFrom, Bool.and_eq_true, decide_eq_true_eq] at hm
    have hrest : ∀ {c}, c < k + 1 → Memory.read rest c = unlistedByte := Memory.read_below hm.2
    simp only [Memory.write]
    split
    · rename_i hak
      split
      · rename_i hb
        split
        · rename_i hc
          have := hrest (c := c) (by omega)
          simp only [Memory.read, if_neg (show k ≠ c by omega), this, hb]
        · rfl
      · simp only [Memory.read, eq_comm (a := a)]
    · split
      · rename_i _ hak
        subst hak
        split
        · rename_i hb
          split
          · rename_i hc
            rw [hrest (c := c) (by omega), hb]
          · rename_i hc
            simp only [Memory.read, if_neg (show ¬a = c from fun h => hc h.symm)]
        · simp only [Memory.read, eq_comm (a := a)]
          by_cases hc : c = a <;> simp [hc]
      · rename_i h1 h2
        simp only [Memory.read, ih hm.2]
        by_cases hc : k = c
        · simp only [if_pos hc, if_neg (show ¬c = a by omega)]
        · simp only [if_neg hc]

/-- A write keeps the canonical form. -/
theorem Memory.wfFrom_write {lo : Nat} {m : Memory} (hm : Memory.wfFrom lo m = true) {a : Nat} (h1 : lo ≤ a)
    (h2 : a < 65536) (b : Byte) : Memory.wfFrom lo (Memory.write m a b) = true := by
  induction m generalizing lo with
  | nil =>
    by_cases hb : b = unlistedByte <;> simp [Memory.write, Memory.wfFrom, hb, h1, h2]
  | cons d rest ih =>
    obtain ⟨k, v⟩ := d
    have hm' := hm
    simp only [Memory.wfFrom, Bool.and_eq_true, decide_eq_true_eq] at hm
    simp only [Memory.write]
    split
    · rename_i hak
      split
      · exact hm'
      · rename_i hb
        simp only [Memory.wfFrom, Bool.and_eq_true, decide_eq_true_eq, bne_iff_ne]
        exact ⟨⟨⟨h1, h2⟩, hb⟩, ⟨⟨by omega, hm.1.1.2⟩, by simpa using hm.1.2⟩, hm.2⟩
    · split
      · rename_i _ hak
        subst hak
        split
        · exact Memory.wfFrom_mono (by omega) hm.2
        · rename_i hb
          simp only [Memory.wfFrom, Bool.and_eq_true, decide_eq_true_eq, bne_iff_ne]
          exact ⟨⟨⟨h1, h2⟩, hb⟩, hm.2⟩
      · rename_i h3 h4
        simp only [Memory.wfFrom, Bool.and_eq_true, decide_eq_true_eq]
        exact ⟨hm.1, ih hm.2 (by omega)⟩

/-- Every write of one byte of the address space keeps the canonical form. -/
theorem Memory.wf_write {m : Memory} (hm : Memory.wf m = true) (a : Word) (b : Byte) :
    Memory.wf (Memory.write m a.toNat b) = true :=
  Memory.wfFrom_write hm (Nat.zero_le _) a.isLt b

/-- Laying an instruction word into memory keeps the canonical form. -/
theorem Memory.wf_storeWord {m : Memory} (hm : Memory.wf m = true) (nbits w : Nat) (pc : Word) :
    Memory.wf (storeWord nbits w pc m) = true :=
  Memory.wf_write (Memory.wf_write (Memory.wf_write hm _ _) _ _) _ _

/-- `withFetchWord` keeps the memory invariant. -/
theorem State.withFetchWord_memoryInv {s : State} (hs : MemoryInv s) (nbits w : Nat) :
    MemoryInv (s.withFetchWord nbits w) :=
  Memory.wf_storeWord hs nbits w s.pc

/-! ### The write path -/

theorem memWrite_window {c : Word} (h : inChipWindow c = true) (b : Byte) (s : State) :
    memWrite c b s = s.emit (chipWrite c b) := by
  simp [memWrite, h]

theorem memWrite_plain {c : Word} (h : inChipWindow c = false) (b : Byte) (s : State) :
    memWrite c b s = s.setMem (Memory.write s.mem c.toNat b) := by
  simp [memWrite, h]

/-- Everything a write can do, R53. -/
theorem memWrite_cases (c : Word) (b : Byte) (s : State) :
    (inChipWindow c = true ∧ (memWrite c b s).mem = s.mem ∧ (memWrite c b s).chip = s.chip ++ chipWrite c b) ∨
    (inChipWindow c = false ∧ (memWrite c b s).mem = Memory.write s.mem c.toNat b ∧
      (memWrite c b s).chip = s.chip) := by
  cases h : inChipWindow c
  · exact .inr ⟨rfl, by rw [memWrite_plain h]; rfl, by rw [memWrite_plain h]; rfl⟩
  · exact .inl ⟨rfl, by rw [memWrite_window h]; rfl, by rw [memWrite_window h]; rfl⟩

/-- A write changes only `Mem` and the event history. -/
theorem memWrite_sameRest (c : Word) (b : Byte) (s : State) :
    memWrite c b s = { s with mem := (memWrite c b s).mem, chip := (memWrite c b s).chip } := by
  unfold memWrite; split <;> rfl

/-- Reading one byte after a write, on a memory in canonical form. -/
theorem memRead_memWrite {s : State} (hs : MemoryInv s) (c : Word) (b : Byte) (d : Word) :
    memRead (memWrite c b s) d = if inChipWindow c = false ∧ d = c then b else memRead s d := by
  rcases memWrite_cases c b s with ⟨h, hm, -⟩ | ⟨h, hm, -⟩
  · simp [memRead, hm, h]
  · simp only [memRead, hm, h, true_and, Memory.read_write hs]
    simp [BitVec.toNat_inj]

/-- A write keeps the memory invariant. -/
theorem memWrite_memoryInv {s : State} (hs : MemoryInv s) (c : Word) (b : Byte) : MemoryInv (memWrite c b s) := by
  rcases memWrite_cases c b s with ⟨-, hm, -⟩ | ⟨-, hm, -⟩
  · rw [MemoryInv, hm]; exact hs
  · rw [MemoryInv, hm]; exact Memory.wf_write hs c b

/-! ### The stack -/

/-- The stack page is outside the chip window (R61). -/
theorem inChipWindow_stackAddr (sp : Byte) : inChipWindow (stackAddr sp) = false := by
  revert sp; decide

/-- A push is never diverted (R61, R150). -/
theorem push_mem (v : Byte) (s : State) : (push v s).mem = Memory.write s.mem (stackAddr s.sp).toNat v := by
  simp [push, memWrite_plain (inChipWindow_stackAddr s.sp)]

theorem push_chip (v : Byte) (s : State) : (push v s).chip = s.chip := by
  simp [push, memWrite_plain (inChipWindow_stackAddr s.sp)]

theorem push_memoryInv {s : State} (hs : MemoryInv s) (v : Byte) : MemoryInv (push v s) := by
  rw [MemoryInv, push_mem]; exact Memory.wf_write hs _ v

/-- Reading one byte after a push. -/
theorem memRead_push {s : State} (hs : MemoryInv s) (v : Byte) (d : Word) :
    memRead (push v s) d = if d = stackAddr s.sp then v else memRead s d := by
  simp only [memRead, push_mem, Memory.read_write hs]
  simp [BitVec.toNat_inj]

/-- Two stack addresses are equal only for equal stack pointers. -/
theorem stackAddr_inj {sp sp' : Byte} : stackAddr sp = stackAddr sp' ↔ sp = sp' := by
  refine ⟨fun h => ?_, fun h => by rw [h]⟩
  unfold stackAddr at h
  bv_omega

end Sys2Proof.Machine
end

