-- ==== Sys2Proof/Laws/Exec.lean ====
section
/-! SUPPORT. Everything one instruction can do, said once: it answers a next state, leaves everything outside the
core as it was, and writes no byte, one byte, or the two bytes of a return address. -/

namespace Sys2Proof.Machine

/-- The fields an instruction leaves alone decide `SameOutsideCore`. -/
theorem sameOutsideCore_of_fields {s t : State} (h1 : t.loaded = s.loaded) (h2 : t.ready = s.ready)
    (h3 : t.finished = s.finished) (h4 : t.samplesPerFrame = s.samplesPerFrame)
    (h5 : t.samplesToNextFrame = s.samplesToNextFrame) (h6 : t.currentTrack = s.currentTrack)
    (h7 : t.trackWritten = s.trackWritten) (h8 : t.subsongCount = s.subsongCount)
    (h9 : t.startTrack = s.startTrack) (h10 : t.speedFlag = s.speedFlag) (h11 : t.initAddr = s.initAddr)
    (h12 : t.playAddr = s.playAddr) (h13 : t.phase = s.phase) (h14 : t.commands = s.commands)
    (h15 : t.replies = s.replies) (h16 : t.answers = s.answers) (h17 : t.draws = s.draws) (h18 : t.cfg = s.cfg) :
    SameOutsideCore s t := by
  cases s; cases t; simp_all [SameOutsideCore]

theorem putOperand_sameOutsideCore (m : MemMode) (base : Nat) (v : Byte) (s : State) :
    SameOutsideCore s (putOperand m base v s) := by
  apply sameOutsideCore_of_fields <;> simp [putOperand]

theorem rmw_sameOutsideCore (m : RmwMode) (base : Nat) (f : Byte → Byte → Byte × Byte) (s : State) :
    SameOutsideCore s (rmw m base f s) := by
  cases m <;> apply sameOutsideCore_of_fields <;> simp [rmw]

theorem branch_sameOutsideCore (cond : Bool) (d : Byte) (s : State) : SameOutsideCore s (branch cond d s) := by
  cases cond <;> rfl

theorem push_sameOutsideCore (v : Byte) (n k : Nat) (s : State) :
    SameOutsideCore s (push v (s.advance n k)) := by
  apply sameOutsideCore_of_fields <;> simp

theorem jsrOp_sameOutsideCore (t : Word) (s : State) : SameOutsideCore s (jsrOp t s) := by
  apply sameOutsideCore_of_fields <;> simp [jsrOp]

/-- What an instruction does to `Mem` and the chip port. -/
inductive CoreWrite (s : State) (t : State) : Prop where
  /-- It writes nothing. -/
  | nothing (hm : t.mem = s.mem) (hc : t.chip = s.chip)
  /-- It writes one byte through the write path: stores, RMW write-backs, `PHA`, `PHP`. -/
  | byte (addr : Word) (b : Byte) (hm : t.mem = (memWrite addr b s).mem) (hc : t.chip = (memWrite addr b s).chip)
  /-- It writes two bytes of the stack page: `JSR`. -/
  | pair (sp sp' b b' : Byte) (hc : t.chip = s.chip)
      (hm : t.mem = Memory.write (Memory.write s.mem (stackAddr sp).toNat b) (stackAddr sp').toNat b')

/-- The write path looks only at `Mem` and the event history. -/
theorem memWrite_congr {s t : State} (hm : t.mem = s.mem) (hc : t.chip = s.chip) (addr : Word) (b : Byte) :
    (memWrite addr b t).mem = (memWrite addr b s).mem ∧ (memWrite addr b t).chip = (memWrite addr b s).chip := by
  unfold memWrite
  split <;> simp [hm, hc]

theorem putOperand_coreWrite (m : MemMode) (base : Nat) (v : Byte) (s : State) :
    CoreWrite s (putOperand m base v s) :=
  have h := memWrite_congr (s := s) (t := s.advance m.length base) rfl rfl (effAddr m s).addr v
  .byte _ v h.1 h.2

theorem rmw_coreWrite (m : RmwMode) (base : Nat) (f : Byte → Byte → Byte × Byte) (s : State) :
    CoreWrite s (rmw m base f s) := by
  cases m with
  | acc => exact .nothing rfl rfl
  | mem m =>
    have h := memWrite_congr (s := s) (t := s.advance m.length base) rfl rfl (effAddr m s).addr
      (f (memRead s (effAddr m s).addr) s.p).1
    exact .byte _ _ h.1 h.2

theorem branch_coreWrite (cond : Bool) (d : Byte) (s : State) : CoreWrite s (branch cond d s) := by
  cases cond <;> exact .nothing rfl rfl

theorem push_coreWrite (v : Byte) (n k : Nat) (s : State) : CoreWrite s (push v (s.advance n k)) :=
  have h := memWrite_congr (s := s) (t := s.advance n k) rfl rfl (stackAddr s.sp) v
  .byte (stackAddr s.sp) v h.1 h.2

theorem jsrOp_coreWrite (t : Word) (s : State) : CoreWrite s (jsrOp t s) :=
  .pair s.sp (spDown s.sp) (highByte (s.pc + 2)) (lowByte (s.pc + 2)) (by simp [jsrOp, push_chip])
    (by simp [jsrOp, push_mem])

/-- What one instruction can do to a state. -/
def CoreEffect (s t : State) : Prop := SameOutsideCore s t ∧ CoreWrite s t

/-! ### One lemma an operation -/

theorem ldaOp_effect (m : ReadMode) (base : Nat) (s : State) : CoreEffect s (ldaOp m base s) :=
  ⟨rfl, .nothing rfl rfl⟩
theorem ldxOp_effect (m : ReadMode) (base : Nat) (s : State) : CoreEffect s (ldxOp m base s) :=
  ⟨rfl, .nothing rfl rfl⟩
theorem ldyOp_effect (m : ReadMode) (base : Nat) (s : State) : CoreEffect s (ldyOp m base s) :=
  ⟨rfl, .nothing rfl rfl⟩
theorem staOp_effect (m : MemMode) (base : Nat) (s : State) : CoreEffect s (staOp m base s) :=
  ⟨putOperand_sameOutsideCore .., putOperand_coreWrite ..⟩
theorem stxOp_effect (m : MemMode) (base : Nat) (s : State) : CoreEffect s (stxOp m base s) :=
  ⟨putOperand_sameOutsideCore .., putOperand_coreWrite ..⟩
theorem styOp_effect (m : MemMode) (base : Nat) (s : State) : CoreEffect s (styOp m base s) :=
  ⟨putOperand_sameOutsideCore .., putOperand_coreWrite ..⟩
theorem taxOp_effect (s : State) : CoreEffect s (taxOp s) := ⟨rfl, .nothing rfl rfl⟩
theorem tayOp_effect (s : State) : CoreEffect s (tayOp s) := ⟨rfl, .nothing rfl rfl⟩
theorem txaOp_effect (s : State) : CoreEffect s (txaOp s) := ⟨rfl, .nothing rfl rfl⟩
theorem tyaOp_effect (s : State) : CoreEffect s (tyaOp s) := ⟨rfl, .nothing rfl rfl⟩
theorem tsxOp_effect (s : State) : CoreEffect s (tsxOp s) := ⟨rfl, .nothing rfl rfl⟩
theorem txsOp_effect (s : State) : CoreEffect s (txsOp s) := ⟨rfl, .nothing rfl rfl⟩
theorem phaOp_effect (s : State) : CoreEffect s (phaOp s) := ⟨push_sameOutsideCore .., push_coreWrite ..⟩
theorem phpOp_effect (s : State) : CoreEffect s (phpOp s) := ⟨push_sameOutsideCore .., push_coreWrite ..⟩
theorem plaOp_effect (s : State) : CoreEffect s (plaOp s) := ⟨rfl, .nothing rfl rfl⟩
theorem plpOp_effect (s : State) : CoreEffect s (plpOp s) := ⟨rfl, .nothing rfl rfl⟩
theorem adcOp_effect (m : ReadMode) (base : Nat) (s : State) : CoreEffect s (adcOp m base s) :=
  ⟨rfl, .nothing rfl rfl⟩
theorem sbcOp_effect (m : ReadMode) (base : Nat) (s : State) : CoreEffect s (sbcOp m base s) :=
  ⟨rfl, .nothing rfl rfl⟩
theorem cmpOp_effect (m : ReadMode) (base : Nat) (s : State) : CoreEffect s (cmpOp m base s) :=
  ⟨rfl, .nothing rfl rfl⟩
theorem cpxOp_effect (m : ReadMode) (base : Nat) (s : State) : CoreEffect s (cpxOp m base s) :=
  ⟨rfl, .nothing rfl rfl⟩
theorem cpyOp_effect (m : ReadMode) (base : Nat) (s : State) : CoreEffect s (cpyOp m base s) :=
  ⟨rfl, .nothing rfl rfl⟩
theorem andOp_effect (m : ReadMode) (base : Nat) (s : State) : CoreEffect s (andOp m base s) :=
  ⟨rfl, .nothing rfl rfl⟩
theorem oraOp_effect (m : ReadMode) (base : Nat) (s : State) : CoreEffect s (oraOp m base s) :=
  ⟨rfl, .nothing rfl rfl⟩
theorem eorOp_effect (m : ReadMode) (base : Nat) (s : State) : CoreEffect s (eorOp m base s) :=
  ⟨rfl, .nothing rfl rfl⟩
theorem bitOp_effect (m : ReadMode) (base : Nat) (s : State) : CoreEffect s (bitOp m base s) :=
  ⟨rfl, .nothing rfl rfl⟩
theorem aslOp_effect (m : RmwMode) (base : Nat) (s : State) : CoreEffect s (aslOp m base s) :=
  ⟨rmw_sameOutsideCore .., rmw_coreWrite ..⟩
theorem lsrOp_effect (m : RmwMode) (base : Nat) (s : State) : CoreEffect s (lsrOp m base s) :=
  ⟨rmw_sameOutsideCore .., rmw_coreWrite ..⟩
theorem rolOp_effect (m : RmwMode) (base : Nat) (s : State) : CoreEffect s (rolOp m base s) :=
  ⟨rmw_sameOutsideCore .., rmw_coreWrite ..⟩
theorem rorOp_effect (m : RmwMode) (base : Nat) (s : State) : CoreEffect s (rorOp m base s) :=
  ⟨rmw_sameOutsideCore .., rmw_coreWrite ..⟩
theorem incOp_effect (m : RmwMode) (base : Nat) (s : State) : CoreEffect s (incOp m base s) :=
  ⟨rmw_sameOutsideCore .., rmw_coreWrite ..⟩
theorem decOp_effect (m : RmwMode) (base : Nat) (s : State) : CoreEffect s (decOp m base s) :=
  ⟨rmw_sameOutsideCore .., rmw_coreWrite ..⟩
theorem inxOp_effect (s : State) : CoreEffect s (inxOp s) := ⟨rfl, .nothing rfl rfl⟩
theorem inyOp_effect (s : State) : CoreEffect s (inyOp s) := ⟨rfl, .nothing rfl rfl⟩
theorem dexOp_effect (s : State) : CoreEffect s (dexOp s) := ⟨rfl, .nothing rfl rfl⟩
theorem deyOp_effect (s : State) : CoreEffect s (deyOp s) := ⟨rfl, .nothing rfl rfl⟩
theorem jmpOp_effect (t : Word) (s : State) : CoreEffect s (jmpOp t s) := ⟨rfl, .nothing rfl rfl⟩
theorem jmpIndOp_effect (p : Word) (s : State) : CoreEffect s (jmpIndOp p s) := ⟨rfl, .nothing rfl rfl⟩
theorem jsrOp_effect (t : Word) (s : State) : CoreEffect s (jsrOp t s) :=
  ⟨jsrOp_sameOutsideCore t s, jsrOp_coreWrite t s⟩
theorem rtsOp_effect (s : State) : CoreEffect s (rtsOp s) := ⟨rfl, .nothing rfl rfl⟩
theorem rtiOp_effect (s : State) : CoreEffect s (rtiOp s) := ⟨rfl, .nothing rfl rfl⟩
theorem brkOp_effect (s : State) : CoreEffect s (brkOp s) := ⟨rfl, .nothing rfl rfl⟩
theorem clcOp_effect (s : State) : CoreEffect s (clcOp s) := ⟨rfl, .nothing rfl rfl⟩
theorem secOp_effect (s : State) : CoreEffect s (secOp s) := ⟨rfl, .nothing rfl rfl⟩
theorem cliOp_effect (s : State) : CoreEffect s (cliOp s) := ⟨rfl, .nothing rfl rfl⟩
theorem seiOp_effect (s : State) : CoreEffect s (seiOp s) := ⟨rfl, .nothing rfl rfl⟩
theorem cldOp_effect (s : State) : CoreEffect s (cldOp s) := ⟨rfl, .nothing rfl rfl⟩
theorem sedOp_effect (s : State) : CoreEffect s (sedOp s) := ⟨rfl, .nothing rfl rfl⟩
theorem clvOp_effect (s : State) : CoreEffect s (clvOp s) := ⟨rfl, .nothing rfl rfl⟩
theorem nopOp_effect (s : State) : CoreEffect s (nopOp s) := ⟨rfl, .nothing rfl rfl⟩
theorem branch_effect (cond : Bool) (d : Byte) (s : State) : CoreEffect s (branch cond d s) :=
  ⟨branch_sameOutsideCore cond d s, branch_coreWrite cond d s⟩
theorem illOp_effect (s : State) : CoreEffect s (illOp s) := ⟨rfl, .nothing rfl rfl⟩

/-- Everything one instruction can do. -/
theorem exec_effect (i : Instr) (s : State) : ∃ t, exec i s = .next t ∧ CoreEffect s t :=
  match i with
  | .ldaImm _ => ⟨_, rfl, ldaOp_effect ..⟩
  | .ldaZp _ => ⟨_, rfl, ldaOp_effect ..⟩
  | .ldaZpx _ => ⟨_, rfl, ldaOp_effect ..⟩
  | .ldaAbs _ => ⟨_, rfl, ldaOp_effect ..⟩
  | .ldaAbx _ => ⟨_, rfl, ldaOp_effect ..⟩
  | .ldaAby _ => ⟨_, rfl, ldaOp_effect ..⟩
  | .ldaIzx _ => ⟨_, rfl, ldaOp_effect ..⟩
  | .ldaIzy _ => ⟨_, rfl, ldaOp_effect ..⟩
  | .ldxImm _ => ⟨_, rfl, ldxOp_effect ..⟩
  | .ldxZp _ => ⟨_, rfl, ldxOp_effect ..⟩
  | .ldxZpy _ => ⟨_, rfl, ldxOp_effect ..⟩
  | .ldxAbs _ => ⟨_, rfl, ldxOp_effect ..⟩
  | .ldxAby _ => ⟨_, rfl, ldxOp_effect ..⟩
  | .ldyImm _ => ⟨_, rfl, ldyOp_effect ..⟩
  | .ldyZp _ => ⟨_, rfl, ldyOp_effect ..⟩
  | .ldyZpx _ => ⟨_, rfl, ldyOp_effect ..⟩
  | .ldyAbs _ => ⟨_, rfl, ldyOp_effect ..⟩
  | .ldyAbx _ => ⟨_, rfl, ldyOp_effect ..⟩
  | .staZp _ => ⟨_, rfl, staOp_effect ..⟩
  | .staZpx _ => ⟨_, rfl, staOp_effect ..⟩
  | .staAbs _ => ⟨_, rfl, staOp_effect ..⟩
  | .staAbx _ => ⟨_, rfl, staOp_effect ..⟩
  | .staAby _ => ⟨_, rfl, staOp_effect ..⟩
  | .staIzx _ => ⟨_, rfl, staOp_effect ..⟩
  | .staIzy _ => ⟨_, rfl, staOp_effect ..⟩
  | .stxZp _ => ⟨_, rfl, stxOp_effect ..⟩
  | .stxZpy _ => ⟨_, rfl, stxOp_effect ..⟩
  | .stxAbs _ => ⟨_, rfl, stxOp_effect ..⟩
  | .styZp _ => ⟨_, rfl, styOp_effect ..⟩
  | .styZpx _ => ⟨_, rfl, styOp_effect ..⟩
  | .styAbs _ => ⟨_, rfl, styOp_effect ..⟩
  | .tax => ⟨_, rfl, taxOp_effect ..⟩
  | .tay => ⟨_, rfl, tayOp_effect ..⟩
  | .txa => ⟨_, rfl, txaOp_effect ..⟩
  | .tya => ⟨_, rfl, tyaOp_effect ..⟩
  | .tsx => ⟨_, rfl, tsxOp_effect ..⟩
  | .txs => ⟨_, rfl, txsOp_effect ..⟩
  | .pha => ⟨_, rfl, phaOp_effect ..⟩
  | .php => ⟨_, rfl, phpOp_effect ..⟩
  | .pla => ⟨_, rfl, plaOp_effect ..⟩
  | .plp => ⟨_, rfl, plpOp_effect ..⟩
  | .adcImm _ => ⟨_, rfl, adcOp_effect ..⟩
  | .adcZp _ => ⟨_, rfl, adcOp_effect ..⟩
  | .adcZpx _ => ⟨_, rfl, adcOp_effect ..⟩
  | .adcAbs _ => ⟨_, rfl, adcOp_effect ..⟩
  | .adcAbx _ => ⟨_, rfl, adcOp_effect ..⟩
  | .adcAby _ => ⟨_, rfl, adcOp_effect ..⟩
  | .adcIzx _ => ⟨_, rfl, adcOp_effect ..⟩
  | .adcIzy _ => ⟨_, rfl, adcOp_effect ..⟩
  | .sbcImm _ => ⟨_, rfl, sbcOp_effect ..⟩
  | .sbcZp _ => ⟨_, rfl, sbcOp_effect ..⟩
  | .sbcZpx _ => ⟨_, rfl, sbcOp_effect ..⟩
  | .sbcAbs _ => ⟨_, rfl, sbcOp_effect ..⟩
  | .sbcAbx _ => ⟨_, rfl, sbcOp_effect ..⟩
  | .sbcAby _ => ⟨_, rfl, sbcOp_effect ..⟩
  | .sbcIzx _ => ⟨_, rfl, sbcOp_effect ..⟩
  | .sbcIzy _ => ⟨_, rfl, sbcOp_effect ..⟩
  | .cmpImm _ => ⟨_, rfl, cmpOp_effect ..⟩
  | .cmpZp _ => ⟨_, rfl, cmpOp_effect ..⟩
  | .cmpZpx _ => ⟨_, rfl, cmpOp_effect ..⟩
  | .cmpAbs _ => ⟨_, rfl, cmpOp_effect ..⟩
  | .cmpAbx _ => ⟨_, rfl, cmpOp_effect ..⟩
  | .cmpAby _ => ⟨_, rfl, cmpOp_effect ..⟩
  | .cmpIzx _ => ⟨_, rfl, cmpOp_effect ..⟩
  | .cmpIzy _ => ⟨_, rfl, cmpOp_effect ..⟩
  | .cpxImm _ => ⟨_, rfl, cpxOp_effect ..⟩
  | .cpxZp _ => ⟨_, rfl, cpxOp_effect ..⟩
  | .cpxAbs _ => ⟨_, rfl, cpxOp_effect ..⟩
  | .cpyImm _ => ⟨_, rfl, cpyOp_effect ..⟩
  | .cpyZp _ => ⟨_, rfl, cpyOp_effect ..⟩
  | .cpyAbs _ => ⟨_, rfl, cpyOp_effect ..⟩
  | .andImm _ => ⟨_, rfl, andOp_effect ..⟩
  | .andZp _ => ⟨_, rfl, andOp_effect ..⟩
  | .andZpx _ => ⟨_, rfl, andOp_effect ..⟩
  | .andAbs _ => ⟨_, rfl, andOp_effect ..⟩
  | .andAbx _ => ⟨_, rfl, andOp_effect ..⟩
  | .andAby _ => ⟨_, rfl, andOp_effect ..⟩
  | .andIzx _ => ⟨_, rfl, andOp_effect ..⟩
  | .andIzy _ => ⟨_, rfl, andOp_effect ..⟩
  | .oraImm _ => ⟨_, rfl, oraOp_effect ..⟩
  | .oraZp _ => ⟨_, rfl, oraOp_effect ..⟩
  | .oraZpx _ => ⟨_, rfl, oraOp_effect ..⟩
  | .oraAbs _ => ⟨_, rfl, oraOp_effect ..⟩
  | .oraAbx _ => ⟨_, rfl, oraOp_effect ..⟩
  | .oraAby _ => ⟨_, rfl, oraOp_effect ..⟩
  | .oraIzx _ => ⟨_, rfl, oraOp_effect ..⟩
  | .oraIzy _ => ⟨_, rfl, oraOp_effect ..⟩
  | .eorImm _ => ⟨_, rfl, eorOp_effect ..⟩
  | .eorZp _ => ⟨_, rfl, eorOp_effect ..⟩
  | .eorZpx _ => ⟨_, rfl, eorOp_effect ..⟩
  | .eorAbs _ => ⟨_, rfl, eorOp_effect ..⟩
  | .eorAbx _ => ⟨_, rfl, eorOp_effect ..⟩
  | .eorAby _ => ⟨_, rfl, eorOp_effect ..⟩
  | .eorIzx _ => ⟨_, rfl, eorOp_effect ..⟩
  | .eorIzy _ => ⟨_, rfl, eorOp_effect ..⟩
  | .bitZp _ => ⟨_, rfl, bitOp_effect ..⟩
  | .bitAbs _ => ⟨_, rfl, bitOp_effect ..⟩
  | .aslAcc => ⟨_, rfl, aslOp_effect ..⟩
  | .aslZp _ => ⟨_, rfl, aslOp_effect ..⟩
  | .aslZpx _ => ⟨_, rfl, aslOp_effect ..⟩
  | .aslAbs _ => ⟨_, rfl, aslOp_effect ..⟩
  | .aslAbx _ => ⟨_, rfl, aslOp_effect ..⟩
  | .lsrAcc => ⟨_, rfl, lsrOp_effect ..⟩
  | .lsrZp _ => ⟨_, rfl, lsrOp_effect ..⟩
  | .lsrZpx _ => ⟨_, rfl, lsrOp_effect ..⟩
  | .lsrAbs _ => ⟨_, rfl, lsrOp_effect ..⟩
  | .lsrAbx _ => ⟨_, rfl, lsrOp_effect ..⟩
  | .rolAcc => ⟨_, rfl, rolOp_effect ..⟩
  | .rolZp _ => ⟨_, rfl, rolOp_effect ..⟩
  | .rolZpx _ => ⟨_, rfl, rolOp_effect ..⟩
  | .rolAbs _ => ⟨_, rfl, rolOp_effect ..⟩
  | .rolAbx _ => ⟨_, rfl, rolOp_effect ..⟩
  | .rorAcc => ⟨_, rfl, rorOp_effect ..⟩
  | .rorZp _ => ⟨_, rfl, rorOp_effect ..⟩
  | .rorZpx _ => ⟨_, rfl, rorOp_effect ..⟩
  | .rorAbs _ => ⟨_, rfl, rorOp_effect ..⟩
  | .rorAbx _ => ⟨_, rfl, rorOp_effect ..⟩
  | .incZp _ => ⟨_, rfl, incOp_effect ..⟩
  | .incZpx _ => ⟨_, rfl, incOp_effect ..⟩
  | .incAbs _ => ⟨_, rfl, incOp_effect ..⟩
  | .incAbx _ => ⟨_, rfl, incOp_effect ..⟩
  | .decZp _ => ⟨_, rfl, decOp_effect ..⟩
  | .decZpx _ => ⟨_, rfl, decOp_effect ..⟩
  | .decAbs _ => ⟨_, rfl, decOp_effect ..⟩
  | .decAbx _ => ⟨_, rfl, decOp_effect ..⟩
  | .inx => ⟨_, rfl, inxOp_effect ..⟩
  | .iny => ⟨_, rfl, inyOp_effect ..⟩
  | .dex => ⟨_, rfl, dexOp_effect ..⟩
  | .dey => ⟨_, rfl, deyOp_effect ..⟩
  | .bcc _ => ⟨_, rfl, branch_effect ..⟩
  | .bcs _ => ⟨_, rfl, branch_effect ..⟩
  | .beq _ => ⟨_, rfl, branch_effect ..⟩
  | .bne _ => ⟨_, rfl, branch_effect ..⟩
  | .bmi _ => ⟨_, rfl, branch_effect ..⟩
  | .bpl _ => ⟨_, rfl, branch_effect ..⟩
  | .bvc _ => ⟨_, rfl, branch_effect ..⟩
  | .bvs _ => ⟨_, rfl, branch_effect ..⟩
  | .jmpAbs _ => ⟨_, rfl, jmpOp_effect ..⟩
  | .jmpInd _ => ⟨_, rfl, jmpIndOp_effect ..⟩
  | .jsr _ => ⟨_, rfl, jsrOp_effect ..⟩
  | .rts => ⟨_, rfl, rtsOp_effect ..⟩
  | .rti => ⟨_, rfl, rtiOp_effect ..⟩
  | .brk => ⟨_, rfl, brkOp_effect ..⟩
  | .clc => ⟨_, rfl, clcOp_effect ..⟩
  | .sec => ⟨_, rfl, secOp_effect ..⟩
  | .cli => ⟨_, rfl, cliOp_effect ..⟩
  | .sei => ⟨_, rfl, seiOp_effect ..⟩
  | .cld => ⟨_, rfl, cldOp_effect ..⟩
  | .sed => ⟨_, rfl, sedOp_effect ..⟩
  | .clv => ⟨_, rfl, clvOp_effect ..⟩
  | .nop => ⟨_, rfl, nopOp_effect ..⟩
  | .ill _ => ⟨_, rfl, illOp_effect ..⟩

/-- The same, of the state an instruction is known to answer. -/
theorem exec_next {i : Instr} {s t : State} (h : exec i s = .next t) : CoreEffect s t := by
  obtain ⟨u, hu, h1⟩ := exec_effect i s
  rw [hu] at h
  cases h
  exact h1

theorem coreStep_effect (s : State) : ∃ t, coreStep s = .next t ∧ CoreEffect s t :=
  exec_effect (fetch s) s

end Sys2Proof.Machine
end

