-- ==== Sys2Proof/Laws/Flags.lean ====
section
/-! SUPPORT. The flag computations, bit by bit: every later proof about `P` reads its bits with these. -/

namespace Sys2Proof.Machine

/-- The bit of `P` a flag is (R22). -/
def Flag.bit : Flag → Nat
  | .n => 7
  | .v => 6
  | .d => 3
  | .i => 2
  | .z => 1
  | .c => 0

theorem flag_eq_bit (f : Flag) (p : Byte) : flag f p = p.getLsbD f.bit := by
  cases f <;> revert p <;> decide

theorem setFlag_bit (f : Flag) (b : Bool) (p : Byte) (k : Nat) :
    (setFlag f b p).getLsbD k = if k = f.bit then b else p.getLsbD k := by
  by_cases hk : k < 8
  · interval_cases k <;> cases f <;> cases b <;> revert p <;> decide
  · have h1 : (setFlag f b p).getLsbD k = false := BitVec.getLsbD_of_ge _ _ (by omega)
    have h2 : p.getLsbD k = false := BitVec.getLsbD_of_ge _ _ (by omega)
    have h3 : k ≠ f.bit := by cases f <;> simp [Flag.bit] <;> omega
    simp [h1, h2, h3]

theorem flag_setFlag (f g : Flag) (b : Bool) (p : Byte) :
    flag f (setFlag g b p) = if f = g then b else flag f p := by
  rw [flag_eq_bit, setFlag_bit, flag_eq_bit]
  cases f <;> cases g <;> rfl

theorem setNZ_bit (v p : Byte) (k : Nat) :
    (setNZ v p).getLsbD k = if k = 7 then v.msb else if k = 1 then v == 0 else p.getLsbD k := by
  simp only [setNZ, setFlag_bit]
  rfl

theorem compareFlags_bit (reg m p : Byte) (k : Nat) :
    (compareFlags reg m p).getLsbD k =
      if k = 0 then decide (m.toNat ≤ reg.toNat) else (setNZ (reg - m) p).getLsbD k := by
  simp only [compareFlags, setFlag_bit]
  rfl

theorem bitFlags_bit (a m p : Byte) (k : Nat) :
    (bitFlags a m p).getLsbD k =
      if k = 6 then m.getLsbD 6 else if k = 7 then m.getLsbD 7 else if k = 1 then (a &&& m) == 0
      else p.getLsbD k := by
  simp only [bitFlags, setFlag_bit]
  rfl

/-- The result of an addition with carry (R160). -/
theorem addWithCarry_fst (a m p : Byte) :
    (addWithCarry a m p).1 = BitVec.ofNat 8 (a.toNat + m.toNat + (flag .c p).toNat) := rfl

theorem addWithCarry_bit (a m p : Byte) (k : Nat) :
    (addWithCarry a m p).2.getLsbD k =
      (let r := (addWithCarry a m p).1
       let c := decide (256 ≤ a.toNat + m.toNat + (flag .c p).toNat)
       if k = 6 then (c != r.msb) else if k = 7 then r.msb else if k = 1 then r == 0
       else if k = 0 then c else p.getLsbD k) := by
  simp only [addWithCarry, setFlag_bit, flag_eq_bit, setNZ_bit, Flag.bit]
  by_cases h6 : k = 6
  · simp [h6]
  · simp [h6]

end Sys2Proof.Machine
end

