-- ==== Sys2Proof/Laws/Forms.lean ====
section
/-! SUPPORT. The instruction set read by class, as the spec's rules are written: one effect for each mnemonic, for all
its modes, with the cycle counts composed from the mode table (R117). `exec_eq_effect` says that the 152 arms of `exec`
are these effects, so that a proof splits on 7 classes and their mnemonics. A pair of class and mnemonic that no
instruction has is given no effect. -/

namespace Sys2Proof.Machine

/-- Read-class mnemonics (R101). -/
def readEffect (mn : Mnemonic) (m : ReadMode) (s : State) : State :=
  match mn with
  | .LDA => ldaOp m m.cycles s
  | .LDX => ldxOp m m.cycles s
  | .LDY => ldyOp m m.cycles s
  | .ADC => adcOp m m.cycles s
  | .SBC => sbcOp m m.cycles s
  | .CMP => cmpOp m m.cycles s
  | .CPX => cpxOp m m.cycles s
  | .CPY => cpyOp m m.cycles s
  | .AND => andOp m m.cycles s
  | .ORA => oraOp m m.cycles s
  | .EOR => eorOp m m.cycles s
  | .BIT => bitOp m m.cycles s
  | _ => s

/-- Store-class mnemonics (R101). -/
def storeEffect (mn : Mnemonic) (m : MemMode) (s : State) : State :=
  match mn with
  | .STA => staOp m m.storeCycles s
  | .STX => stxOp m m.storeCycles s
  | .STY => styOp m m.storeCycles s
  | _ => s

/-- Read-modify-write mnemonics (R101). -/
def rmwEffect (mn : Mnemonic) (m : RmwMode) (s : State) : State :=
  match mn with
  | .ASL => aslOp m m.cycles s
  | .LSR => lsrOp m m.cycles s
  | .ROL => rolOp m m.cycles s
  | .ROR => rorOp m m.cycles s
  | .INC => incOp m m.cycles s
  | .DEC => decOp m m.cycles s
  | _ => s

/-- Implied-mode mnemonics, and every undocumented opcode. -/
def impliedEffect (mn : Mnemonic) (s : State) : State :=
  match mn with
  | .TAX => taxOp s
  | .TAY => tayOp s
  | .TXA => txaOp s
  | .TYA => tyaOp s
  | .TSX => tsxOp s
  | .TXS => txsOp s
  | .PHA => phaOp s
  | .PHP => phpOp s
  | .PLA => plaOp s
  | .PLP => plpOp s
  | .INX => inxOp s
  | .INY => inyOp s
  | .DEX => dexOp s
  | .DEY => deyOp s
  | .RTS => rtsOp s
  | .RTI => rtiOp s
  | .BRK => brkOp s
  | .CLC => clcOp s
  | .SEC => secOp s
  | .CLI => cliOp s
  | .SEI => seiOp s
  | .CLD => cldOp s
  | .SED => sedOp s
  | .CLV => clvOp s
  | .NOP => nopOp s
  | .ILL => illOp s
  | _ => s

/-- The branches (R201 to R208). -/
def branchEffect (mn : Mnemonic) (d : Byte) (s : State) : State :=
  match mn with
  | .BCC => branch (!s.flag .c) d s
  | .BCS => branch (s.flag .c) d s
  | .BEQ => branch (s.flag .z) d s
  | .BNE => branch (!s.flag .z) d s
  | .BMI => branch (s.flag .n) d s
  | .BPL => branch (!s.flag .n) d s
  | .BVC => branch (!s.flag .v) d s
  | .BVS => branch (s.flag .v) d s
  | _ => s

/-- The effect of an instruction by its class. -/
def formEffect (f : Form) (s : State) : State :=
  match f with
  | .implied mn => impliedEffect mn s
  | .read mn m => readEffect mn m s
  | .store mn m => storeEffect mn m s
  | .rmw mn m => rmwEffect mn m s
  | .branch mn d => branchEffect mn d s
  | .absTarget .JSR t => jsrOp t s
  | .absTarget .JMP t => jmpOp t s
  | .absTarget _ _ => s
  | .indTarget .JMP p => jmpIndOp p s
  | .indTarget _ _ => s

/-- Every arm of `exec` is the effect of its class. -/
theorem exec_eq_effect (i : Instr) (s : State) : exec i s = .next (formEffect i.form s) := by
  cases i <;> rfl

/-- A next state of `exec` is that effect. -/
theorem exec_next_effect {i : Instr} {s t : State} (h : exec i s = .next t) : t = formEffect i.form s := by
  rw [exec_eq_effect] at h
  exact (Host.Outcome.next.inj h).symm

/-! ### The status register after an operation -/

theorem putOperand_p (m : MemMode) (base : Nat) (v : Byte) (s : State) : (putOperand m base v s).p = s.p := by
  simp [putOperand]

theorem branch_p (cond : Bool) (d : Byte) (s : State) : (branch cond d s).p = s.p := by
  cases cond <;> rfl

theorem jsrOp_p (t : Word) (s : State) : (jsrOp t s).p = s.p := by
  simp [jsrOp]

/-- The byte a read-modify-write instruction works on (R120). -/
def rmwOperand (m : RmwMode) (s : State) : Byte :=
  match m with
  | .acc => s.a
  | .mem m => memRead s (effAddr m s).addr

theorem rmw_p (m : RmwMode) (base : Nat) (f : Byte → Byte → Byte × Byte) (s : State) :
    (rmw m base f s).p = (f (rmwOperand m s) s.p).2 := by
  cases m <;> rfl

/-! ### Cycles after an operation -/

theorem putOperand_cyc (m : MemMode) (base : Nat) (v : Byte) (s : State) : (putOperand m base v s).cyc = base := by
  simp [putOperand]

theorem rmw_cyc (m : RmwMode) (base : Nat) (f : Byte → Byte → Byte × Byte) (s : State) :
    (rmw m base f s).cyc = base := by
  cases m <;> simp [rmw]

theorem jsrOp_cyc (t : Word) (s : State) : (jsrOp t s).cyc = 6 := by
  simp [jsrOp]

end Sys2Proof.Machine
end

