-- ==== Sys2Proof/Laws/Operands.lean ====
section
/-! SUPPORT. What an operand depends on: the registers, `Mem` and the parameters, and nothing else. -/

namespace Sys2Proof.Machine

variable {s t : State}

theorem SameCore.refl (s : State) : SameCore s s := ⟨rfl, rfl, rfl, rfl, rfl, rfl, rfl, rfl⟩

theorem SameCore.memRead (h : SameCore s t) (c : Word) : memRead t c = Machine.memRead s c := by
  simp [Machine.memRead, h.2.2.2.2.2.2.1]

theorem SameCore.memRead16 (h : SameCore s t) (lo hi : Word) : memRead16 t lo hi = Machine.memRead16 s lo hi := by
  simp [Machine.memRead16, h.memRead]

theorem SameCore.effAddr (h : SameCore s t) (m : MemMode) : effAddr m t = Machine.effAddr m s := by
  obtain ⟨-, hx, hy, -⟩ := id h
  cases m <;> simp [Machine.effAddr, zeroPagePointer, hx, hy, h.memRead16]

theorem SameCore.operand (h : SameCore s t) (m : ReadMode) : operand m t = Machine.operand m s := by
  cases m <;> simp [Machine.operand, h.effAddr, h.memRead]

theorem SameCore.penalty (h : SameCore s t) (m : ReadMode) : penalty m t = Machine.penalty m s := by
  cases m <;> simp [Machine.penalty, h.effAddr]

theorem SameCore.indirectTarget (h : SameCore s t) (p : Word) :
    indirectTarget p t = Machine.indirectTarget p s := by
  simp [Machine.indirectTarget, h.memRead16, h.2.2.2.2.2.2.2]

theorem SameCore.popValue (h : SameCore s t) : popValue t = Machine.popValue s := by
  simp [Machine.popValue, h.2.2.2.1, h.memRead]

theorem SameCore.popReturn (h : SameCore s t) : popReturn t = Machine.popReturn s := by
  simp [Machine.popReturn, Machine.popValue, h.2.2.2.1, h.memRead]

theorem SameCore.fetch (h : SameCore s t) : fetch t = Machine.fetch s := by
  simp [Machine.fetch, h.2.2.2.2.2.1, h.memRead]

/-- R115: the page test of an indexed address is the carry of its low-byte addition. -/
theorem indexed_crossed (base : Word) (index : Byte) :
    (indexed base index).crossed = decide (255 < (lowByte base).toNat + index.toNat) := by
  have h1 : (base + index.setWidth 16).toNat = (base.toNat + index.toNat) % 65536 := by simp
  have h4 := base.isLt
  have h5 := index.isLt
  have h6 : (indexed base index).crossed = (highByte (base + index.setWidth 16) != highByte base) := rfl
  rw [h6, Bool.eq_iff_iff, bne_iff_ne, decide_eq_true_eq, Ne, ← BitVec.toNat_inj, highByte_toNat,
    highByte_toNat, lowByte_toNat, h1]
  omega

end Sys2Proof.Machine
end

