-- ==== Sys2Proof/Laws/Sequencer.lean ====
section
/-! SUPPORT. The parts a command is made of, field by field; and everything one step of the block can do, said once. -/

namespace Sys2Proof.Machine

variable (s : State)

/-! ### `finish` -/

@[simp] theorem finish_a (r : Reply) : (finish r s).a = s.a := rfl
@[simp] theorem finish_x (r : Reply) : (finish r s).x = s.x := rfl
@[simp] theorem finish_y (r : Reply) : (finish r s).y = s.y := rfl
@[simp] theorem finish_sp (r : Reply) : (finish r s).sp = s.sp := rfl
@[simp] theorem finish_p (r : Reply) : (finish r s).p = s.p := rfl
@[simp] theorem finish_pc (r : Reply) : (finish r s).pc = s.pc := rfl
@[simp] theorem finish_cyc (r : Reply) : (finish r s).cyc = s.cyc := rfl
@[simp] theorem finish_mem (r : Reply) : (finish r s).mem = s.mem := rfl
@[simp] theorem finish_chip (r : Reply) : (finish r s).chip = s.chip := rfl
@[simp] theorem finish_loaded (r : Reply) : (finish r s).loaded = s.loaded := rfl
@[simp] theorem finish_ready (r : Reply) : (finish r s).ready = s.ready := rfl
@[simp] theorem finish_finished (r : Reply) : (finish r s).finished = s.finished := rfl
@[simp] theorem finish_samplesPerFrame (r : Reply) : (finish r s).samplesPerFrame = s.samplesPerFrame := rfl
@[simp] theorem finish_samplesToNextFrame (r : Reply) : (finish r s).samplesToNextFrame = s.samplesToNextFrame := rfl
@[simp] theorem finish_currentTrack (r : Reply) : (finish r s).currentTrack = s.currentTrack := rfl
@[simp] theorem finish_trackWritten (r : Reply) : (finish r s).trackWritten = s.trackWritten := rfl
@[simp] theorem finish_subsongCount (r : Reply) : (finish r s).subsongCount = s.subsongCount := rfl
@[simp] theorem finish_startTrack (r : Reply) : (finish r s).startTrack = s.startTrack := rfl
@[simp] theorem finish_speedFlag (r : Reply) : (finish r s).speedFlag = s.speedFlag := rfl
@[simp] theorem finish_initAddr (r : Reply) : (finish r s).initAddr = s.initAddr := rfl
@[simp] theorem finish_playAddr (r : Reply) : (finish r s).playAddr = s.playAddr := rfl
@[simp] theorem finish_phase (r : Reply) : (finish r s).phase = .idle := rfl
@[simp] theorem finish_commands (r : Reply) : (finish r s).commands = s.commands := rfl
@[simp] theorem finish_replies (r : Reply) : (finish r s).replies = s.replies ++ [r] := rfl
@[simp] theorem finish_answers (r : Reply) : (finish r s).answers = s.answers := rfl
@[simp] theorem finish_draws (r : Reply) : (finish r s).draws = s.draws := rfl
@[simp] theorem finish_cfg (r : Reply) : (finish r s).cfg = s.cfg := rfl

/-! ### `enterSubroutine` and `startCall` -/

@[simp] theorem enterSubroutine_cyc (e : Word) (a : Byte) : (enterSubroutine e a s).cyc = s.cyc := by
  simp [enterSubroutine, coreResetTo]
@[simp] theorem enterSubroutine_chip (e : Word) (a : Byte) : (enterSubroutine e a s).chip = s.chip := by
  simp [enterSubroutine, push_chip, coreResetTo]
@[simp] theorem enterSubroutine_loaded (e : Word) (a : Byte) : (enterSubroutine e a s).loaded = s.loaded := by
  simp [enterSubroutine, coreResetTo]
@[simp] theorem enterSubroutine_ready (e : Word) (a : Byte) : (enterSubroutine e a s).ready = s.ready := by
  simp [enterSubroutine, coreResetTo]
@[simp] theorem enterSubroutine_finished (e : Word) (a : Byte) : (enterSubroutine e a s).finished = s.finished := by
  simp [enterSubroutine, coreResetTo]
@[simp] theorem enterSubroutine_samplesPerFrame (e : Word) (a : Byte) : (enterSubroutine e a s).samplesPerFrame = s.samplesPerFrame := by
  simp [enterSubroutine, coreResetTo]
@[simp] theorem enterSubroutine_samplesToNextFrame (e : Word) (a : Byte) : (enterSubroutine e a s).samplesToNextFrame = s.samplesToNextFrame := by
  simp [enterSubroutine, coreResetTo]
@[simp] theorem enterSubroutine_currentTrack (e : Word) (a : Byte) : (enterSubroutine e a s).currentTrack = s.currentTrack := by
  simp [enterSubroutine, coreResetTo]
@[simp] theorem enterSubroutine_trackWritten (e : Word) (a : Byte) : (enterSubroutine e a s).trackWritten = s.trackWritten := by
  simp [enterSubroutine, coreResetTo]
@[simp] theorem enterSubroutine_subsongCount (e : Word) (a : Byte) : (enterSubroutine e a s).subsongCount = s.subsongCount := by
  simp [enterSubroutine, coreResetTo]
@[simp] theorem enterSubroutine_startTrack (e : Word) (a : Byte) : (enterSubroutine e a s).startTrack = s.startTrack := by
  simp [enterSubroutine, coreResetTo]
@[simp] theorem enterSubroutine_speedFlag (e : Word) (a : Byte) : (enterSubroutine e a s).speedFlag = s.speedFlag := by
  simp [enterSubroutine, coreResetTo]
@[simp] theorem enterSubroutine_initAddr (e : Word) (a : Byte) : (enterSubroutine e a s).initAddr = s.initAddr := by
  simp [enterSubroutine, coreResetTo]
@[simp] theorem enterSubroutine_playAddr (e : Word) (a : Byte) : (enterSubroutine e a s).playAddr = s.playAddr := by
  simp [enterSubroutine, coreResetTo]
@[simp] theorem enterSubroutine_commands (e : Word) (a : Byte) : (enterSubroutine e a s).commands = s.commands := by
  simp [enterSubroutine, coreResetTo]
@[simp] theorem enterSubroutine_replies (e : Word) (a : Byte) : (enterSubroutine e a s).replies = s.replies := by
  simp [enterSubroutine, coreResetTo]
@[simp] theorem enterSubroutine_answers (e : Word) (a : Byte) : (enterSubroutine e a s).answers = s.answers := by
  simp [enterSubroutine, coreResetTo]
@[simp] theorem enterSubroutine_draws (e : Word) (a : Byte) : (enterSubroutine e a s).draws = s.draws := by
  simp [enterSubroutine, coreResetTo]
@[simp] theorem enterSubroutine_cfg (e : Word) (a : Byte) : (enterSubroutine e a s).cfg = s.cfg := by
  simp [enterSubroutine, coreResetTo]

/-- The two sentinel bytes are all a call writes to `Mem` (R243). -/
theorem enterSubroutine_mem (e : Word) (a : Byte) :
    (enterSubroutine e a s).mem = Memory.write (Memory.write s.mem 0x01FF 0) 0x01FE 0 := by
  simp only [enterSubroutine, State.setPc_mem, push_mem, push_sp, coreResetTo]
  rfl

@[simp] theorem startCall_cyc (c : CallReturn) (e : Word) (a : Byte) : (startCall c e a s).cyc = s.cyc := by
  simp [startCall]
@[simp] theorem startCall_chip (c : CallReturn) (e : Word) (a : Byte) : (startCall c e a s).chip = s.chip := by
  simp [startCall]
@[simp] theorem startCall_loaded (c : CallReturn) (e : Word) (a : Byte) : (startCall c e a s).loaded = s.loaded := by
  simp [startCall]
@[simp] theorem startCall_ready (c : CallReturn) (e : Word) (a : Byte) : (startCall c e a s).ready = s.ready := by
  simp [startCall]
@[simp] theorem startCall_finished (c : CallReturn) (e : Word) (a : Byte) : (startCall c e a s).finished = s.finished := by
  simp [startCall]
@[simp] theorem startCall_samplesPerFrame (c : CallReturn) (e : Word) (a : Byte) : (startCall c e a s).samplesPerFrame = s.samplesPerFrame := by
  simp [startCall]
@[simp] theorem startCall_samplesToNextFrame (c : CallReturn) (e : Word) (a : Byte) : (startCall c e a s).samplesToNextFrame = s.samplesToNextFrame := by
  simp [startCall]
@[simp] theorem startCall_currentTrack (c : CallReturn) (e : Word) (a : Byte) : (startCall c e a s).currentTrack = s.currentTrack := by
  simp [startCall]
@[simp] theorem startCall_trackWritten (c : CallReturn) (e : Word) (a : Byte) : (startCall c e a s).trackWritten = s.trackWritten := by
  simp [startCall]
@[simp] theorem startCall_subsongCount (c : CallReturn) (e : Word) (a : Byte) : (startCall c e a s).subsongCount = s.subsongCount := by
  simp [startCall]
@[simp] theorem startCall_startTrack (c : CallReturn) (e : Word) (a : Byte) : (startCall c e a s).startTrack = s.startTrack := by
  simp [startCall]
@[simp] theorem startCall_speedFlag (c : CallReturn) (e : Word) (a : Byte) : (startCall c e a s).speedFlag = s.speedFlag := by
  simp [startCall]
@[simp] theorem startCall_initAddr (c : CallReturn) (e : Word) (a : Byte) : (startCall c e a s).initAddr = s.initAddr := by
  simp [startCall]
@[simp] theorem startCall_playAddr (c : CallReturn) (e : Word) (a : Byte) : (startCall c e a s).playAddr = s.playAddr := by
  simp [startCall]
@[simp] theorem startCall_commands (c : CallReturn) (e : Word) (a : Byte) : (startCall c e a s).commands = s.commands := by
  simp [startCall]
@[simp] theorem startCall_replies (c : CallReturn) (e : Word) (a : Byte) : (startCall c e a s).replies = s.replies := by
  simp [startCall]
@[simp] theorem startCall_answers (c : CallReturn) (e : Word) (a : Byte) : (startCall c e a s).answers = s.answers := by
  simp [startCall]
@[simp] theorem startCall_draws (c : CallReturn) (e : Word) (a : Byte) : (startCall c e a s).draws = s.draws := by
  simp [startCall]
@[simp] theorem startCall_cfg (c : CallReturn) (e : Word) (a : Byte) : (startCall c e a s).cfg = s.cfg := by
  simp [startCall]
@[simp] theorem startCall_phase (c : CallReturn) (e : Word) (a : Byte) : (startCall c e a s).phase = .call c 0 := rfl

theorem startCall_mem (c : CallReturn) (e : Word) (a : Byte) :
    (startCall c e a s).mem = Memory.write (Memory.write s.mem 0x01FF 0) 0x01FE 0 := enterSubroutine_mem s e a

/-- Everything a call does, R243: the registers, the two sentinel bytes and the phase; nothing else. -/
theorem startCall_eq (c : CallReturn) (e : Word) (a : Byte) :
    startCall c e a s = { s with
      a := a, x := 0, y := 0, p := 0, sp := 0xFD, pc := e
      mem := (startCall c e a s).mem, phase := .call c 0 } := by
  have h : spDown (spDown 255) = 0xFD := by decide
  rw [startCall_mem]
  simp only [startCall, enterSubroutine, push, memWrite_plain (inChipWindow_stackAddr _), State.setPc, State.setSp,
    State.setMem, coreResetTo, h]
  rfl

theorem startCall_memoryInv {s : State} (hs : MemoryInv s) (c : CallReturn) (e : Word) (a : Byte) :
    MemoryInv (startCall c e a s) := by
  rw [MemoryInv, startCall_mem]
  exact Memory.wf_write (Memory.wf_write hs 0x01FF 0) 0x01FE 0

/-! ### The 25 writes of the terminal transition -/

/-- Writes that all fall in the chip window leave `Mem` alone and emit what each of them emits. -/
theorem foldl_memWrite_window (ks : List Word) (h : ∀ k ∈ ks, inChipWindow k = true) (b : Byte) (s : State) :
    ks.foldl (fun t k => memWrite k b t) s = s.emit (ks.flatMap fun k => chipWrite k b) := by
  induction ks generalizing s with
  | nil => simp [State.emit]
  | cons k ks ih =>
    rw [List.foldl_cons, memWrite_window (h k (by simp)), ih fun k' hk' => h k' (by simp [hk'])]
    simp [State.emit]

/-- The 25 sound registers lie in the chip window (R54). -/
theorem inChipWindow_soundRegister {n : Nat} (hn : n < 25) : inChipWindow (0xD400 + BitVec.ofNat 16 n) = true := by
  interval_cases n <;> rfl

/-- The initial volume, R265: one poke, no byte of `Mem`. -/
theorem memWrite_volume : memWrite 0xD418 15 s = { s with chip := s.chip ++ [.poke 24 15] } := rfl

/-- The terminal transition, R271: 25 pokes in ascending order, no byte of `Mem`. -/
theorem terminalFrame_eq :
    terminalFrame s = { s with
      chip := s.chip ++ (List.range 25).map fun k => .poke (BitVec.ofNat 5 k) 0
      samplesToNextFrame := none
      finished := true } := by
  have h := foldl_memWrite_window ((List.range 25).map fun k => 0xD400 + BitVec.ofNat 16 k)
    (fun k hk => by
      obtain ⟨n, hn, rfl⟩ := List.mem_map.1 hk
      exact inChipWindow_soundRegister (List.mem_range.1 hn)) 0 s
  rw [List.foldl_map] at h
  unfold terminalFrame
  rw [h]
  have e : (((List.range 25).map fun k => 0xD400 + BitVec.ofNat 16 k).flatMap fun k => chipWrite k 0) =
      (List.range 25).map fun k => ChipEvent.poke (BitVec.ofNat 5 k) 0 := rfl
  rw [e]
  rfl

/-! ### Everything one step can do -/

/-- One move of the block, R13: nothing to do, a command accepted, a routine returned, an instruction of a routine,
or a turn of the loop of `fill`. -/
theorem machineStep_cases {s t : State} (h : machineStep s = .next t) :
    (s.phase = .idle ∧ s.commands = [] ∧ t = s) ∨
    (∃ c rest, s.phase = .idle ∧ s.commands = c :: rest ∧ accept c { s with commands := rest } = .next t) ∨
    (∃ caller total, s.phase = .call caller total ∧ s.pc ≤ 1 ∧ t = resume caller total s) ∨
    (∃ caller total u, s.phase = .call caller total ∧ ¬s.pc ≤ 1 ∧ CoreEffect s u ∧
      t = { u with phase := .call caller (total + u.cyc) }) ∨
    (∃ remaining total offset, s.phase = .filling remaining total offset ∧
      t = fillTurn remaining total offset s) := by
  unfold machineStep at h
  split at h
  · rename_i hp
    split at h
    · rename_i hc
      cases h
      exact .inl ⟨hp, hc, rfl⟩
    · rename_i c rest hc
      exact .inr (.inl ⟨c, rest, hp, hc, h⟩)
  · rename_i caller total hp
    unfold callTurn at h
    split at h
    · rename_i hpc
      cases h
      exact .inr (.inr (.inl ⟨caller, total, hp, hpc, rfl⟩))
    · rename_i hpc
      obtain ⟨u, hu, he⟩ := coreStep_effect s
      rw [hu] at h
      cases h
      exact .inr (.inr (.inr (.inl ⟨caller, total, u, hp, hpc, he, rfl⟩)))
  · rename_i remaining total offset hp
    cases h
    exact .inr (.inr (.inr (.inr ⟨remaining, total, offset, hp, rfl⟩)))

/-! ### The step, by phase -/

variable {s}

theorem step_idle {c : HostCommand} {cs : List HostCommand} (hp : s.phase = .idle) (hc : s.commands = c :: cs) :
    step s = accept c { s with commands := cs } := by
  cases s; cases hp; cases hc; rfl

theorem step_nothing (hp : s.phase = .idle) (hc : s.commands = []) : step s = .next s := by
  cases s; cases hp; cases hc; rfl

theorem step_return {caller : CallReturn} {total : Nat} (hp : s.phase = .call caller total) (hpc : s.pc ≤ 1) :
    step s = .next (resume caller total s) := by
  cases s; cases hp; exact if_pos hpc

theorem step_run {caller : CallReturn} {total : Nat} {t : State} (hp : s.phase = .call caller total)
    (hpc : ¬s.pc ≤ 1) (ht : coreStep s = .next t) :
    step s = .next { t with phase := .call caller (total + t.cyc) } := by
  have h : step s = callTurn caller total s := by cases s; cases hp; rfl
  rw [h, callTurn, if_neg hpc, ht]

theorem step_filling {remaining total offset : Nat} (hp : s.phase = .filling remaining total offset) :
    step s = .next (fillTurn remaining total offset s) := by
  cases s; cases hp; rfl

/-- Every command but a malformed `load` is accepted (R260: "No command can fail"). -/
theorem accept_total (s : State) (c : HostCommand) :
    (∃ t, accept c s = .next t) ∨
    (accept c s = .refused .imageOutsideDomain ∧
      ∃ image ia pa st sc sf, c = .load image ia pa st sc sf ∧ Memory.wf image = false) := by
  cases c with
  | load image ia pa st sc sf =>
    cases h : Memory.wf image
    · exact .inr ⟨by simp [accept, h], image, ia, pa, st, sc, sf, rfl, h⟩
    · exact .inl ⟨load image ia pa st sc sf s, by simp [accept, h]⟩
  | coreStep =>
    obtain ⟨t, ht, -⟩ := coreStep_effect s
    exact .inl ⟨finish (.cycles t.cyc) t, by simp [accept, ht]⟩
  | _ => exact .inl ⟨_, rfl⟩

/-! ### Render requests -/

/-- A render request records itself and uses up an answer; nothing else of the state but `draws` changes. -/
theorem emitRender_sameRest (s : State) (count offset : Nat) :
    emitRender count offset s = { s with
      chip := s.chip ++ [.render count offset]
      answers := s.answers.tail
      draws := (emitRender count offset s).draws } := by
  unfold emitRender
  split <;> simp [*, State.emit]

/-- The answer is at most what was asked for (R261). -/
theorem renderAnswer_le (s : State) (count : Nat) : renderAnswer count s ≤ count := by
  unfold renderAnswer
  split <;> exact Nat.min_le_right _ _

/-- An instruction keeps the memory invariant. -/
theorem CoreEffect.memoryInv {s t : State} (hs : MemoryInv s) (h : CoreEffect s t) : MemoryInv t := by
  rcases h.2 with ⟨hm, _⟩ | ⟨a, b, hm, _⟩ | ⟨sp, sp', b, b', _, hm⟩ <;> rw [MemoryInv, hm]
  · exact hs
  · exact memWrite_memoryInv hs a b
  · exact Memory.wf_write (Memory.wf_write hs _ _) _ _

end Sys2Proof.Machine
end

