-- ==== Sys2Proof/Tests/Slice0.lean ====
section
/-! SUPPORT. The model's own tests: words written out from the spec's encodings, one step on a small state with the
result the spec's example gives (the rule is named beside it), and for every claim with hypotheses a state that meets
them. No expected value was taken from the model. -/

open Sys2Proof Sys2Proof.Machine Sys2Proof.Claims

namespace Sys2Proof.Tests

/-! ### Helpers -/

/-- A state about to run code at `0x1000`. -/
def base : State := { State.reset with pc := 0x1000, sp := 0xFD }

/-- Bytes laid from an address up. -/
def lay : List Byte → Word → Memory → Memory
  | [], _, m => m
  | b :: bs, a, m => lay bs (a + 1) (Memory.write m a.toNat b)

/-- One byte of `Mem` set. -/
def poked (a : Word) (b : Byte) (s : State) : State := { s with mem := Memory.write s.mem a.toNat b }

/-- The state one `Step()` leaves when the bytes lie at `PC`. -/
def after (bs : List Byte) (s : State) : State :=
  match step { s with mem := lay bs s.pc s.mem, commands := [.coreStep] } with
  | .next t => t
  | .fault _ => s
  | .refused _ => s

/-- The state one step leaves. -/
def next (s : State) : State :=
  match step s with
  | .next t => t
  | .fault _ => s
  | .refused _ => s

/-! ### Well-formedness, decoding, and the host's two entry points -/

theorem test_wf_refuses_documented_byte_as_ill : (Instr.ill 0xA9).wf = false := by decide
theorem test_wf_refuses_brk_as_ill : (Instr.ill 0x00).wf = false := by decide
theorem test_wf_accepts_undocumented_byte : (Instr.ill 0x02).wf = true ∧ (Instr.ill 0xFF).wf = true := by decide

/-- R90, R81: one word of each family, bit by bit from R85. -/
theorem test_decode_load_store : decode [0b10111101, 0x34, 0x12] = .ok (.ldaAbx 0x1234, []) ∧
    decode [0b10010110, 0x10] = .ok (.stxZpy 0x10, []) ∧ decode [0b10011010] = .ok (.txs, []) := ⟨rfl, rfl, rfl⟩
theorem test_decode_stack : decode [0b01001000] = .ok (.pha, []) ∧ decode [0b00101000] = .ok (.plp, []) := ⟨rfl, rfl⟩
theorem test_decode_arithmetic : decode [0b01110001, 0x10] = .ok (.adcIzy 0x10, []) ∧
    decode [0b11100101, 0x10] = .ok (.sbcZp 0x10, []) ∧ decode [0b11001100, 0x34, 0x12] = .ok (.cpyAbs 0x1234, []) :=
  ⟨rfl, rfl, rfl⟩
theorem test_decode_logic : decode [0b00100001, 0x10] = .ok (.andIzx 0x10, []) ∧
    decode [0b00101100, 0x34, 0x12] = .ok (.bitAbs 0x1234, []) := ⟨rfl, rfl⟩
theorem test_decode_shift : decode [0b01111110, 0x34, 0x12] = .ok (.rorAbx 0x1234, []) ∧
    decode [0b01001010] = .ok (.lsrAcc, []) ∧ decode [0b11010110, 0x10] = .ok (.decZpx 0x10, []) := ⟨rfl, rfl, rfl⟩
theorem test_decode_control : decode [0b01101100, 0x34, 0x12] = .ok (.jmpInd 0x1234, []) ∧
    decode [0b01010000, 0x7F] = .ok (.bvc 0x7F, []) ∧ decode [0b01000000] = .ok (.rti, []) := ⟨rfl, rfl, rfl⟩
theorem test_decode_flags : decode [0b10111000] = .ok (.clv, []) ∧ decode [0b11101010] = .ok (.nop, []) ∧
    decode [0b00000010, 0x10] = .ok (.ill 0x02, [0x10]) := ⟨rfl, rfl, rfl⟩
theorem test_decode_truncated : decode [0xAD, 0x34] = .error .truncated ∧ decode [] = .error .truncated := ⟨rfl, rfl⟩

/-- Bit 0 of a table word is the least significant bit of the first byte; bits above `nbits` are 0. -/
theorem test_decodeTableWord : decodeTableWord 24 0x1234AD = some (.ldaAbs 0x1234) ∧
    decodeTableWord 8 0xFFAD = some (.ldaAbs 0) ∧ decodeTableWord 16 0x80A9 = some (.ldaImm 0x80) := ⟨rfl, rfl, rfl⟩
theorem test_withFetchWord_runs_the_word :
    (next (State.reset.withFetchWord 16 0x80A9)).a = 0x80 ∧ (next (State.reset.withFetchWord 16 0x80A9)).pc = 2 := by
  decide

/-! ### Loads, stores, transfers -/

theorem test_lda_imm_R130 : let t := after [0xA9, 0x80] { base with p := 0x02 }
    t.a = 0x80 ∧ t.p = 0x80 ∧ t.pc = 0x1002 ∧ t.cyc = 2 := by decide
/-- R123 (e): the pointer of `izx` wraps within page zero. -/
theorem test_lda_izx_wraps_R123 :
    let s := poked 0x1234 0x77 (poked 0x0000 0x12 (poked 0x00FF 0x34 { base with x := 1 }))
    let t := after [0xA1, 0xFE] s
    t.a = 0x77 ∧ t.cyc = 6 := by decide
theorem test_ldx_zpy_R131 : let t := after [0xB6, 0xF0] { base with x := 9, y := 0x20 }
    t.x = 0 ∧ t.p = 0x02 ∧ t.cyc = 4 := by decide
/-- R123 (d): an index that wraps past the top of memory crosses a page. -/
theorem test_ldx_aby_wraps : let t := after [0xBE, 0xF0, 0xFF] (poked 0x0010 0x55 { base with y := 0x20 })
    t.x = 0x55 ∧ t.cyc = 5 := by decide
theorem test_ldy_imm_R132 : let t := after [0xA0, 0x7F] base
    t.y = 0x7F ∧ t.p = 0 ∧ t.cyc = 2 := by decide
theorem test_sta_window_R133 : let t := after [0x8D, 0x18, 0xD4] { base with a := 0x0F }
    t.chip = [.poke 24 15] ∧ memRead t 0xD418 = 0 ∧ t.cyc = 4 := by decide
/-- R54: a store above 0xD418 emits both transactions, the mirror of register 0 included. -/
theorem test_sta_digi_R54 : (after [0x8D, 0x20, 0xD4] { base with a := 0x0F }).chip =
    [.poke 0 15, .pokeDigi 0xD420 15] := by decide
theorem test_stx_R134 : let t := after [0x86, 0x10] { base with x := 0x33 }
    memRead t 0x0010 = 0x33 ∧ t.cyc = 3 := by decide
theorem test_sty_R135 : let t := after [0x8C, 0x00, 0xD4] { base with y := 0x44 }
    t.chip = [.poke 0 0x44] ∧ t.cyc = 4 := by decide
theorem test_tax_R136 : let t := after [0xAA] { base with x := 5 }
    t.x = 0 ∧ t.p = 0x02 := by decide
theorem test_tay_R137 : let t := after [0xA8] { base with a := 0x90 }
    t.y = 0x90 ∧ t.p = 0x80 := by decide
theorem test_txa_R138 : let t := after [0x8A] { base with x := 0x01, p := 0x82 }
    t.a = 0x01 ∧ t.p = 0x00 := by decide
theorem test_tya_R139 : let t := after [0x98] { base with y := 0xFF }
    t.a = 0xFF ∧ t.p = 0x80 := by decide
theorem test_tsx_R140 : let t := after [0xBA] base
    t.x = 0xFD ∧ t.p = 0x80 := by decide
theorem test_txs_R141 : let t := after [0x9A] base
    t.sp = 0x00 ∧ t.p = 0x00 := by decide

/-! ### Stack -/

theorem test_pha_R152 : let t := after [0x48] { base with a := 0x42 }
    memRead t 0x01FD = 0x42 ∧ t.sp = 0xFC ∧ t.cyc = 3 := by decide
/-- R24: "starting with S=0, a push leaves S=0 (not 255)". -/
theorem test_pha_clamp_R152 : let t := after [0x48] { base with a := 0x42, sp := 0 }
    memRead t 0x0100 = 0x42 ∧ t.sp = 0 := by decide
theorem test_php_R153 : let t := after [0x08] { base with p := 0x83 }
    memRead t 0x01FD = 0x83 ∧ t.sp = 0xFC ∧ t.p = 0x83 := by decide
theorem test_pla_R154 : let t := after [0x68] { base with a := 7, sp := 0xFC }
    t.a = 0x00 ∧ t.sp = 0xFD ∧ t.p = 0x02 ∧ t.cyc = 4 := by decide
/-- R24: "starting with S=255, a pop leaves S=255 (not 0)". -/
theorem test_pla_clamp_R154 : let t := after [0x68] (poked 0x01FF 0x99 { base with sp := 0xFF })
    t.a = 0x99 ∧ t.sp = 0xFF := by decide
theorem test_plp_R155 : let t := after [0x28] (poked 0x01FD 0xFF { base with sp := 0xFC })
    t.p = 0xFF ∧ t.sp = 0xFD ∧ t.cyc = 4 := by decide

/-! ### Arithmetic and compares -/

theorem test_adc_R160 : let t := after [0x69, 0x01] { base with a := 0xFF }
    t.a = 0x00 ∧ t.p = 0x43 ∧ t.cyc = 2 := by decide
/-- R225: with D set the sum is still binary. -/
theorem test_adc_ignores_decimal_R225 : let t := after [0x69, 0x01] { base with a := 0x09, p := 0x08 }
    t.a = 0x0A ∧ t.p = 0x08 := by decide
theorem test_sbc_R161 : let t := after [0xE9, 0x01] { base with p := 0x01 }
    t.a = 0xFF ∧ t.p = 0xC0 := by decide
/-- R161: `0x50 - 0x10` sets V here. -/
theorem test_sbc_overflow_R161 : let t := after [0xE9, 0x10] { base with a := 0x50, p := 0x01 }
    t.a = 0x40 ∧ t.p = 0x41 := by decide
theorem test_cmp_R162 : let t := after [0xC9, 0x10] { base with a := 0x20 }
    t.p = 0x01 ∧ t.a = 0x20 := by decide
theorem test_cpx_R163 : (after [0xE0, 0x05] { base with x := 0x05 }).p = 0x03 := by decide
theorem test_cpy_R164 : (after [0xC0, 0x01] { base with y := 0x00, p := 0x03 }).p = 0x80 := by decide

/-! ### Logic -/

theorem test_and_R170 : let t := after [0x29, 0x0F] { base with a := 0xF0 }
    t.a = 0x00 ∧ t.p = 0x02 := by decide
theorem test_ora_R171 : let t := after [0x09, 0x80] { base with a := 0x01 }
    t.a = 0x81 ∧ t.p = 0x80 := by decide
theorem test_eor_R172 : let t := after [0x49, 0xFF] { base with a := 0x0F }
    t.a = 0xF0 ∧ t.p = 0x80 := by decide
theorem test_bit_R173 : let t := after [0x24, 0x10] (poked 0x0010 0xC0 { base with a := 0x01 })
    t.p = 0xC2 ∧ t.a = 0x01 ∧ t.cyc = 3 := by decide

/-! ### Shifts, increments, decrements -/

theorem test_asl_R180 : let t := after [0x0A] { base with a := 0x81 }
    t.a = 0x02 ∧ t.p = 0x01 := by decide
theorem test_lsr_R181 : let t := after [0x4A] { base with a := 0x03, p := 0x80 }
    t.a = 0x01 ∧ t.p = 0x01 := by decide
theorem test_rol_R182 : let t := after [0x2A] { base with a := 0x80, p := 0x01 }
    t.a = 0x01 ∧ t.p = 0x01 := by decide
theorem test_ror_R183 : let t := after [0x6A] { base with a := 0x01, p := 0x01 }
    t.a = 0x80 ∧ t.p = 0x81 := by decide
theorem test_inc_R184 : let t := after [0xE6, 0x10] (poked 0x0010 0xFF base)
    memRead t 0x0010 = 0x00 ∧ t.p = 0x02 ∧ t.cyc = 5 := by decide
/-- R120: in the chip window the byte stays and one poke is emitted. -/
theorem test_inc_window_R120 : let t := after [0xEE, 0x00, 0xD4] (poked 0xD400 0x07 base)
    memRead t 0xD400 = 0x07 ∧ t.chip = [.poke 0 0x08] := by decide
theorem test_dec_R185 : let t := after [0xCE, 0x00, 0x20] (poked 0x2000 0x01 base)
    memRead t 0x2000 = 0x00 ∧ t.p = 0x02 ∧ t.cyc = 6 := by decide
theorem test_inx_R186 : let t := after [0xE8] { base with x := 0xFF }
    t.x = 0x00 ∧ t.p = 0x02 := by decide
theorem test_iny_R187 : let t := after [0xC8] { base with y := 0x7F }
    t.y = 0x80 ∧ t.p = 0x80 := by decide
theorem test_dex_R188 : let t := after [0xCA] { base with x := 0x01 }
    t.x = 0x00 ∧ t.p = 0x02 := by decide
theorem test_dey_R189 : let t := after [0x88] base
    t.y = 0xFF ∧ t.p = 0x80 := by decide

/-! ### Control transfer -/

theorem test_bcc_R201 : (after [0x90, 0x04] base).pc = 0x1006 ∧ (after [0x90, 0x04] base).cyc = 3 ∧
    (after [0x90, 0x04] { base with p := 1 }).pc = 0x1002 ∧ (after [0x90, 0x04] { base with p := 1 }).cyc = 2 := by
  decide
theorem test_bcs_R202 : let t := after [0xB0, 0xFE] { base with p := 1 }
    t.pc = 0x1000 ∧ t.cyc = 3 := by decide
theorem test_beq_R203 : let t := after [0xF0, 0x10] { base with pc := 0x10F0, p := 0x02 }
    t.pc = 0x1102 ∧ t.cyc = 4 := by decide
theorem test_bne_R204 : let t := after [0xD0, 0xFD] { base with pc := 0x1002 }
    t.pc = 0x1001 ∧ t.cyc = 3 := by decide
theorem test_bmi_R205 : let t := after [0x30, 0x02] { base with pc := 0x2000 }
    t.pc = 0x2002 ∧ t.cyc = 2 := by decide
/-- R206: the "branch wraparound" property of the source. -/
theorem test_bpl_R206 : let t := after [0x10, 0xFA] { base with pc := 0x0002 }
    t.pc = 0xFFFE ∧ t.cyc = 4 := by decide
theorem test_bvc_R207 : let t := after [0x50, 0x7F] base
    t.pc = 0x1081 ∧ t.cyc = 3 := by decide
theorem test_bvs_R208 : let t := after [0x70, 0x80] { base with p := 0x40 }
    t.pc = 0x0F82 ∧ t.cyc = 4 := by decide
theorem test_jmp_R209 : let t := after [0x4C, 0x00, 0x20] base
    t.pc = 0x2000 ∧ t.cyc = 3 := by decide
/-- R123 (g): with and without the page-wrap parameter. -/
theorem test_jmp_ind_R123 :
    let s := poked 0x1200 0x80 (poked 0x1300 0x40 base)
    (after [0x6C, 0xFF, 0x12] s).pc = 0x4000 ∧
    (after [0x6C, 0xFF, 0x12] { s with cfg := { s.cfg with jmpIndPageWrap := true } }).pc = 0x8000 := by decide
theorem test_jsr_R211 : let t := after [0x20, 0x34, 0x12] base
    memRead t 0x01FD = 0x10 ∧ memRead t 0x01FC = 0x02 ∧ t.sp = 0xFB ∧ t.pc = 0x1234 ∧ t.cyc = 6 := by decide
theorem test_rts_R212 : let t := after [0x60] (poked 0x01FC 0x02 (poked 0x01FD 0x10 { base with sp := 0xFB }))
    t.pc = 0x1003 ∧ t.sp = 0xFD ∧ t.cyc = 6 := by decide
theorem test_rti_R213 : let t := after [0x40] { base with p := 0x81 }
    t.pc = 0x0001 ∧ t.sp = 0xFF ∧ t.p = 0x81 := by decide
theorem test_brk_R214 : let t := after [0x00] { base with pc := 0x1234, sp := 0xFB, p := 0x01 }
    t.pc = 0 ∧ t.sp = 0xFB ∧ t.p = 0x01 ∧ t.cyc = 7 := by decide

/-! ### Flag instructions, NOP, undocumented bytes -/

theorem test_clc_R220 : (after [0x18] { base with p := 0xC3 }).p = 0xC2 := by decide
theorem test_sec_R221 : (after [0x38] base).p = 0x01 := by decide
theorem test_cli_R222 : (after [0x58] { base with p := 0x05 }).p = 0x01 := by decide
theorem test_sei_R223 : (after [0x78] base).p = 0x04 := by decide
theorem test_cld_R224 : (after [0xD8] { base with p := 0x09 }).p = 0x01 := by decide
theorem test_sed_R225 : (after [0xF8] base).p = 0x08 := by decide
theorem test_clv_R226 : (after [0xB8] { base with p := 0xC0 }).p = 0x80 := by decide
theorem test_nop_R227 : let t := after [0xEA] base
    t.pc = 0x1001 ∧ t.cyc = 2 := by decide
theorem test_ill_R228 : let t := after [0xA7, 0x10] base
    t.pc = 0x1001 ∧ t.cyc = 2 ∧ t.a = 0 ∧ t.x = 0 := by decide

/-! ### The frame sequencer, one move at a time (R281, R282) -/

theorem test_frame_numbers_R281 : frameMicros 0x9800 1 = 40000 ∧ frameSamples 44100 40000 = 1764 ∧
    frameMicros 0x0016 1 = 22 ∧ frameSamples 48000 22 = 1 ∧ frameMicros 0x2600 0 = 20000 := by decide

/-- The image of R282: two `RTS`. -/
def image282 : Memory := [(0x1000, 0x60), (0x1003, 0x60)]

theorem test_load_R282 :
    let t := next { State.reset with commands := [.load image282 0x1000 0x1003 0 0 0] }
    t.chip = [.poke 24 15] ∧ t.pc = 0x1000 ∧ t.sp = 0xFD ∧ t.phase = .call .trackInit 0 ∧ t.loaded = true := by decide

/-- A session that is playing, at the counts R282 names. -/
def playing : State :=
  { State.reset with
    mem := image282, loaded := true, ready := true, trackWritten := true, initAddr := 0x1000, playAddr := 0x1003
    samplesPerFrame := 882, samplesToNextFrame := some 882, answers := [882, 882, 236] }

theorem test_fill_boundary_R282 : let t := next { playing with phase := .filling 2000 0 0 }
    t.chip = [.render 882 0] ∧ t.samplesToNextFrame = some 0 ∧ t.phase = .call (.play (.fill 1118 882 0)) 0 ∧
      t.pc = 0x1003 := by decide
theorem test_fill_final_R282 : let t := next { playing with phase := .filling 236 1764 0, answers := [236] }
    t.chip = [.render 236 1764] ∧ t.samplesToNextFrame = some 646 ∧ t.replies = [.samples 2000] ∧
      t.ready = true := by decide
/-- R282: an answer of 0 to the whole request ends the stream and keeps the counter. -/
theorem test_fill_ends_R282 :
    let t := next { playing with phase := .filling 100 0 0, samplesToNextFrame := some 646, answers := [0] }
    t.replies = [.samples 0] ∧ t.ready = false ∧ t.finished = true ∧ t.samplesToNextFrame = some 646 := by decide
theorem test_terminal_R271 :
    let t := next { playing with ready := false, finished := true, commands := [.advanceFrame] }
    t.chip.length = 25 ∧ t.chip.head? = some (.poke 0 0) ∧ t.chip.getLast? = some (.poke 24 0) ∧
      t.samplesToNextFrame = none := by decide
/-- R266: "for subsongCount=2, changeTrack(-1) and changeTrack(3) are no-ops". -/
theorem test_changeTrack_range_R266 :
    let s := { playing with subsongCount := 2 }
    (next { s with commands := [.changeTrack (-1)] }).phase = .idle ∧
    (next { s with commands := [.changeTrack 3] }).phase = .idle ∧
    (next { s with commands := [.changeTrack 2] }).phase = .call .trackInit 0 ∧
    (next { s with commands := [.changeTrack 2] }).a = 2 := by decide
theorem test_frame_after_play_R268 :
    let t := next { playing with phase := .call (.play .host) 6, pc := 1, samplesToNextFrame := some 0 }
    t.samplesToNextFrame = some 882 ∧ t.replies = [.completed] := by decide
/-- R263, the start track out of range: the counter and `currentTrack` are kept, the session is not ready; R285 (d). -/
theorem test_load_bad_startTrack_R263 :
    let s := { playing with currentTrack := 3, subsongCount := 3, samplesToNextFrame := none, ready := false, finished := true }
    let t := next { s with commands := [.load image282 0x1000 0x1003 2 1 0, .nextTrack] }
    t.currentTrack = 3 ∧ t.trackWritten = false ∧ t.samplesToNextFrame = none ∧ t.finished = false ∧
      t.chip = [.poke 24 15] ∧ t.replies = [.completed] ∧ (next t).phase = .idle := by decide
theorem test_load_refuses_a_malformed_image :
    step { State.reset with commands := [.load [(2, 1), (1, 1)] 0 0 0 0 0] } = .refused .imageOutsideDomain := rfl

/-! ### Witnesses: for every claim with hypotheses, a state and operands that meet them -/

theorem witness_DecodeOfEncode : (Instr.ill 0xFF).wf = true ∧ (Instr.jmpInd 0xFFFF).wf = true := by decide
theorem witness_EncodeOfDecode : decode [0x6C, 0xFF, 0xFF, 0x01] = .ok (.jmpInd 0xFFFF, [0x01]) := rfl
theorem witness_UndocumentedBytesAreOneByteNoOps : isUndocumented 0x02 = true ∧ isUndocumented 0xFF = true := by
  decide
theorem witness_StepRunsTheDecodedInstruction_call :
    let s := poked 0x0002 0xEA { base with pc := 2, phase := .call .bench 9 }
    decode [memRead s s.pc, memRead s (s.pc + 1), memRead s (s.pc + 2)] = .ok (.nop, [0, 0]) ∧
    s.phase = .call .bench 9 ∧ 1 < s.pc ∧ exec .nop s = .next { s with pc := 3, cyc := 2 } :=
  ⟨rfl, rfl, by decide, rfl⟩
theorem witness_StepRunsTheDecodedInstruction_idle :
    let s := poked 0x1000 0xEA { base with commands := [.coreStep] }
    decode [memRead s s.pc, memRead s (s.pc + 1), memRead s (s.pc + 2)] = .ok (.nop, [0, 0]) ∧
    s.phase = .idle ∧ s.commands = [.coreStep] ∧
    exec .nop { s with commands := [] } = .next { s with commands := [], pc := 0x1001, cyc := 2 } :=
  ⟨rfl, rfl, rfl, rfl⟩
theorem witness_BlockNeverFaults : State.reset.phase = .idle ∧
    ({ State.reset with commands := [.load image282 0 0 0 0 0] } : State).commands =
      .load image282 0 0 0 0 0 :: [] ∧ Memory.wf image282 = true := ⟨rfl, rfl, rfl⟩
theorem witness_InstructionDependsOnRegistersAndMem : SameCore base { base with cyc := 5, ready := true } :=
  ⟨rfl, rfl, rfl, rfl, rfl, rfl, rfl, rfl⟩
theorem witness_AtMostOnePokeAnInstruction :
    exec (.staAbs 0xD7FF) base = .next { base with pc := 0x1003, cyc := 4, chip := [.poke 31 0, .pokeDigi 0xD7FF 0] } :=
  rfl
/-- Also the witness of every claim whose only hypothesis is the memory invariant. -/
theorem witness_WritePath : MemoryInv playing := rfl
theorem witness_EqualReadsEqualMemories : MemoryInv playing ∧ MemoryInv { playing with pc := 7 } ∧
    ∀ c, memRead playing c = memRead { playing with pc := 7 } c := ⟨rfl, rfl, fun _ => rfl⟩
theorem witness_StepKeepsMemoryCanonical : MemoryInv State.reset ∧ step State.reset = .next State.reset := ⟨rfl, rfl⟩
theorem witness_ChipWindowBytesAreConstant : MemoryInv playing ∧
    step { playing with commands := [.stop] } = .next { playing with ready := false, replies := [.completed] } ∧
    ({ playing with commands := [.stop] } : State).acceptsLoad = false ∧
    0xD400 ≤ (0xD7FF : Word).toNat ∧ (0xD7FF : Word).toNat ≤ 0xD7FF := ⟨rfl, rfl, rfl, by decide, by decide⟩
theorem witness_StoreIsSeenByNextFetch :
    (Instr.staAbs 0x1003).form = .store .STA (.abs 0x1003) ∧ storedRegister .STA { base with a := 0xEA } = some 0xEA ∧
    exec (.staAbs 0x1003) { base with a := 0xEA } =
      .next { base with a := 0xEA, pc := 0x1003, cyc := 4, mem := [(0x1003, 0xEA)] } ∧
    (effAddr (.abs 0x1003) base).addr = 0x1003 ∧ inChipWindow 0x1003 = false := ⟨rfl, rfl, rfl, rfl, by decide⟩
theorem witness_StepKeepsSequencerInv : SequencerInv playing ∧ step playing = .next playing :=
  ⟨⟨fun _ => ⟨rfl, rfl, by decide, rfl, by decide⟩, fun _ _ h => (by cases h), fun _ => by decide, fun h => (by cases h),
    trivial⟩, rfl⟩
theorem witness_OnlyTrackSelectionStartsPlayback_ready :
    let s := { playing with ready := false, pc := 1, phase := .call (.play .changeTrack) 0 }
    SequencerInv s ∧ s.ready = false ∧ (next s).ready = true :=
  ⟨⟨fun h => (by cases h), fun h => (by cases h), fun _ => by decide, fun h => (by cases h), rfl, rfl, rfl, by decide, rfl,
    by decide⟩, rfl, rfl⟩
theorem witness_OnlyTrackSelectionStartsPlayback_finished :
    let s := { playing with ready := false, finished := true, pc := 1, phase := .call .trackInit 0 }
    SequencerInv s ∧ s.finished = true ∧ (next s).finished = false :=
  ⟨⟨fun h => (by cases h), fun h => (by cases h), fun _ => by decide, fun _ => .inl rfl, rfl, rfl, rfl, by decide⟩, rfl,
    by decide⟩
theorem witness_CommandsOneAtATime : step State.reset = .next State.reset ∧
    ({ base with phase := .filling 0 0 0 } : State).phase ≠ .idle ∧
    (next { base with commands := [.stop, .nextTrack] }).commands = [.nextTrack] ∧
    (next { base with commands := [.stop, .nextTrack] }).phase = .idle ∧
    (next { playing with phase := .filling 0 0 0 }).phase = .idle ∧
    (next { playing with commands := [.changeTrack 0] }).phase ≠ .idle :=
  ⟨rfl, by decide, rfl, rfl, rfl, by decide⟩
theorem witness_CoreResetEntryPoints : base.phase = .idle ∧
    ({ base with commands := [.coreReset] } : State).commands = .coreReset :: [] ∧
    ({ base with commands := [.coreResetTo (-1) 256] } : State).commands = .coreResetTo (-1) 256 :: [] :=
  ⟨rfl, rfl, rfl⟩
theorem witness_RunSubroutine : MemoryInv base ∧
    ({ base with commands := [.coreRunSubroutine 0x1000 0] } : State).commands = .coreRunSubroutine 0x1000 0 :: [] ∧
    ({ base with pc := 1, phase := .call .bench 16 } : State).phase = .call .bench 16 ∧
    ({ base with pc := 1, phase := .call .bench 16 } : State).pc.toNat ≤ 1 := ⟨rfl, rfl, rfl, by decide⟩
theorem witness_PopMovesThenReads : MemoryInv base ∧ base.sp ≠ 0 ∧ MemoryInv { base with sp := 0 } ∧
    ({ base with sp := 0 } : State).sp = 0 := ⟨rfl, by decide, rfl, rfl⟩
theorem witness_PullsUndoPushes : MemoryInv { base with sp := 2 } ∧ ({ base with sp := 2 } : State).sp ≠ 0 ∧
    2 ≤ ({ base with sp := 2 } : State).sp.toNat := ⟨rfl, by decide, by decide⟩
theorem witness_FlagsHaveOnlyTheirWriters : exec .nop base = .next { base with pc := 0x1001, cyc := 2 } ∧
    Instr.mnemonic .nop ∉ flagWriters 7 ∧ Instr.mnemonic .nop ∉ flagWriters 0 := ⟨rfl, by decide, by decide⟩
theorem witness_DecimalAndInterruptFlagsDoNothing : (Instr.adcImm 1).mnemonic ≠ .PHP ∧
    (0x3C : Byte) &&& 0xC3 = base.p &&& 0xC3 := by decide
theorem witness_CyclesFollowTheOpcodeTable : encode (.ldaAbx 0x12F0) = 0xBD :: [0xF0, 0x12] ∧
    (after [0xBD, 0xF0, 0x12] { base with x := 0x20 }).cyc = 5 := by decide
theorem witness_PcAdvancesByLength : Instr.mnemonic .nop ∉ controlTransfers ∧
    branchTaken (Instr.bcs 0).mnemonic base.p = some false ∧
    exec (.bcs 0) base = .next { base with pc := 0x1002, cyc := 2 } := ⟨by decide, by decide, rfl⟩
theorem witness_LoadsAndLogic : (Instr.ldaImm 0).form = .read .LDA (.imm 0) ∧
    (Instr.ldxZpy 0xFF).form = .read .LDX (.mem (.zpy 0xFF)) ∧ (Instr.ldyAbx 0xFFFF).form = .read .LDY (.mem (.abx 0xFFFF)) ∧
    (Instr.andIzx 0).form = .read .AND (.mem (.izx 0)) ∧ (Instr.oraIzy 0).form = .read .ORA (.mem (.izy 0)) ∧
    (Instr.eorAby 0).form = .read .EOR (.mem (.aby 0)) := ⟨rfl, rfl, rfl, rfl, rfl, rfl⟩
theorem witness_Stores : MemoryInv base ∧ (Instr.staIzy 0xFF).form = .store .STA (.izy 0xFF) ∧
    (Instr.stxZpy 0).form = .store .STX (.zpy 0) ∧ (Instr.styAbs 0xD7FF).form = .store .STY (.abs 0xD7FF) :=
  ⟨rfl, rfl, rfl, rfl⟩
theorem witness_AddWithCarry : (Instr.adcImm 0xFF).form = .read .ADC (.imm 0xFF) ∧
    511 = ({ base with a := 0xFF, p := 1 } : State).a.toNat + (operand (.imm 0xFF) base).toNat +
      ((1 : Byte).getLsbD 0).toNat := ⟨rfl, by decide⟩
theorem witness_SubtractWithBorrow : (Instr.sbcImm 0xFF).form = .read .SBC (.imm 0xFF) ∧
    (-256 : Int) = (base.a.toNat : Int) - (operand (.imm 0xFF) base).toNat - (1 - (base.p.getLsbD 0).toNat) :=
  ⟨rfl, by decide⟩
theorem witness_Compares : (Instr.cpxAbs 0).form = .read .CPX (.mem (.abs 0)) ∧
    comparedRegister .CPX base = some 0 ∧ comparedRegister .CMP base = some 0 ∧ comparedRegister .CPY base = some 0 :=
  ⟨rfl, rfl, rfl, rfl⟩
theorem witness_BitTest : (Instr.bitZp 0xFF).form = .read .BIT (.mem (.zp 0xFF)) := rfl
theorem witness_ReadModifyWriteAccumulator : Instr.form .aslAcc = .rmw .ASL .acc ∧ Instr.form .rorAcc = .rmw .ROR .acc :=
  ⟨rfl, rfl⟩
theorem witness_ReadModifyWriteMemory : MemoryInv base ∧ (Instr.decAbx 0xD400).form = .rmw .DEC (.mem (.abx 0xD400)) ∧
    0 = memRead base (effAddr (.abx 0xD400) base).addr := ⟨rfl, rfl, by decide⟩
theorem witness_Branches : (Instr.bpl 0x80).form = .branch .BPL 0x80 ∧ branchTaken .BPL base.p = some true ∧
    branchTaken .BMI base.p = some false := ⟨rfl, by decide, by decide⟩
theorem witness_Jumps : base.cfg.jmpIndPageWrap = false ∧
    ({ base with cfg := { base.cfg with jmpIndPageWrap := true } } : State).cfg.jmpIndPageWrap = true := ⟨rfl, rfl⟩
theorem witness_StackPullInstructions :
    0 = memRead { base with sp := 255 } (BitVec.ofNat 16 (256 + min ((255 : Byte).toNat + 1) 255)) := by decide
theorem witness_Returns : 0 = memRead { base with sp := 254 } (BitVec.ofNat 16 (256 + min ((254 : Byte).toNat + 1) 255)) ∧
    0 = memRead { base with sp := 254 } (BitVec.ofNat 16 (256 + min ((254 : Byte).toNat + 2) 255)) := by decide
theorem witness_BreakHaltsTheRoutine :
    let s := { base with phase := .call .bench 3 }
    s.phase = .call .bench 3 ∧ 1 < s.pc ∧ memRead s s.pc = 0x00 := ⟨rfl, by decide, rfl⟩
theorem witness_StopOnlyClearsReady : State.reset.phase = .idle ∧
    ({ State.reset with commands := [.stop, .fill 0 0] } : State).commands = .stop :: .fill 0 0 :: [] := ⟨rfl, rfl⟩
theorem witness_FillOnAStoppedSession : State.reset.phase = .idle ∧ State.reset.ready = false ∧
    ({ State.reset with commands := [.fill 0 0] } : State).commands = .fill 0 0 :: [] := ⟨rfl, rfl, rfl⟩
theorem witness_TrackOutOfRangeIsIgnored : playing.phase = .idle ∧ playing.trackWritten = true ∧
    (playing.subsongCount.toNat : Int) < 1 ∧ playing.subsongCount ≤ playing.currentTrack ∧ playing.currentTrack = 0 :=
  ⟨rfl, rfl, by decide, by decide, rfl⟩
theorem witness_ChangeTrackStages : MemoryInv playing ∧ playing.loaded = true ∧
    (0 : Int) ≤ 0 ∧ (0 : Int) ≤ playing.subsongCount.toNat ∧
    ({ playing with pc := 1, phase := .call .trackInit 6 } : State).pc ≤ 1 ∧
    ({ playing with samplesToNextFrame := some 0 } : State).samplesToNextFrame = some 0 :=
  ⟨rfl, rfl, by decide, by decide, by decide, rfl⟩
theorem witness_LoadStages : Memory.wf image282 = true ∧ (0x1003 : Word) ≠ 0 ∧ (0 : Byte) ≤ 0 ∧ (0 : Byte) < 1 ∧
    MemoryInv { playing with pc := 1, phase := .call .loadVector 6 } ∧ playing.startTrack ≤ playing.subsongCount ∧
    ({ playing with startTrack := 1 } : State).subsongCount < ({ playing with startTrack := 1 } : State).startTrack :=
  ⟨rfl, by decide, by decide, by decide, rfl, by decide, by decide⟩
theorem witness_AdvanceFrame : MemoryInv playing ∧ playing.loaded = true ∧ playing.finished = false ∧
    State.reset.loaded = false ∧ playing.samplesToNextFrame = some 882 ∧
    ({ playing with pc := 0, phase := .call (.play (.fill 1 2 3)) 6 } : State).pc ≤ 1 :=
  ⟨rfl, rfl, rfl, rfl, rfl, by decide⟩
theorem witness_TerminalTransition :
    let s := { playing with ready := false, finished := true, commands := [.advanceFrame] }
    s.phase = .idle ∧ s.commands = .advanceFrame :: [] ∧ s.loaded = true ∧ s.finished = true := ⟨rfl, rfl, rfl, rfl⟩
theorem witness_FrameLength : 65535 < 65536 ∧ (65535 : Nat) ≠ 0 ∧ (1 : Byte) ≠ 0 ∧
    (⟨0xFFFF, 67367, 2970, 3233⟩ : Claims.FrameRow) ∈ Claims.frameTable :=
  ⟨by decide, by decide, by decide, by simp [Claims.frameTable]⟩
theorem witness_FillStartsAndBoundarySegment : MemoryInv playing ∧ playing.loaded = true ∧ playing.ready = true ∧
    playing.finished = false ∧ playing.samplesToNextFrame = some 882 ∧ 882 ≤ 882 ∧ 0 < 882 :=
  ⟨rfl, rfl, rfl, rfl, rfl, by decide, by decide⟩
theorem witness_NullCounterMeansFinished_load :
    let s := { playing with
      ready := false, finished := true, samplesToNextFrame := none
      commands := [.load image282 0x1000 0x1003 2 1 0] }
    SequencerInv s ∧ (s.samplesToNextFrame = none → s.finished = true) ∧ (next s).samplesToNextFrame = none ∧
      (next s).finished = false :=
  ⟨⟨fun h => (by cases h), fun h => (by cases h), fun _ => by decide, fun _ => .inl rfl, trivial⟩, fun _ => rfl, by decide,
    by decide⟩
theorem witness_NullCounterMeansFinished_fill :
    let s := { playing with
      ready := false, trackWritten := false, samplesToNextFrame := none, commands := [.fill 1 0] }
    SequencerInv s ∧ s.samplesToNextFrame = none ∧ s.finished = false ∧ s.phase = .idle ∧
      s.commands = .fill 1 0 :: [] ∧ (next s).replies = [.samples 0] :=
  ⟨⟨fun h => (by cases h), fun h => (by cases h), fun h => (by cases h), fun _ => .inr (.inl rfl), trivial⟩, rfl, rfl, rfl,
    rfl, by decide⟩
theorem witness_FillFinalSegment :
    let s := { playing with phase := .filling 881 0 0 }
    s.phase = .filling 881 0 0 ∧ (∀ k, s.samplesToNextFrame = some k → 881 < k) ∧ 0 < 881 :=
  ⟨rfl, fun k h => by cases h; decide, by decide⟩

end Sys2Proof.Tests
end

section
/-! The obligations of spec/10_state.md: `Mem` keeps its canonical form, which determines it; the values at reset; the
bits of `P` and who writes them; where `PC` stands after an instruction. -/

namespace Sys2Proof.Machine

/-! ### What a step does to `Mem`

Every write of the block goes through the write path (R53), so `Mem` after a step is `Mem` before it, or the image a
`load` brought, after some writes of single bytes outside the chip window. -/

/-- One byte written outside the chip window (R53). -/
def PlainWrite (m m' : Memory) : Prop :=
  ∃ (c : Word) (b : Byte), inChipWindow c = false ∧ m' = Memory.write m c.toNat b

/-- Any number of plain writes. -/
def PlainWrites : Memory → Memory → Prop := Relation.ReflTransGen PlainWrite

theorem PlainWrites.write {m m' : Memory} (h : PlainWrites m m') {c : Word} (hc : inChipWindow c = false) (b : Byte) :
    PlainWrites m (Memory.write m' c.toNat b) := .tail h ⟨c, b, hc, rfl⟩

theorem PlainWrites.wf {m m' : Memory} (h : PlainWrites m m') (hm : Memory.wf m = true) : Memory.wf m' = true := by
  induction h with
  | refl => exact hm
  | tail _ hw ih =>
    obtain ⟨c, b, -, rfl⟩ := hw
    exact Memory.wf_write ih c b

theorem memWrite_plainWrites {m : Memory} {s : State} (hs : PlainWrites m s.mem) (c : Word) (b : Byte) :
    PlainWrites m (memWrite c b s).mem := by
  rcases memWrite_cases c b s with ⟨-, hm, -⟩ | ⟨hc, hm, -⟩
  · exact hm ▸ hs
  · exact hm ▸ hs.write hc b

/-- An instruction writes nothing, one byte, or the two bytes of a return address. -/
theorem CoreEffect.plainWrites {s t : State} (h : CoreEffect s t) : PlainWrites s.mem t.mem := by
  cases h.2 with
  | nothing hm => exact hm ▸ .refl
  | byte c b hm => exact hm ▸ memWrite_plainWrites .refl c b
  | pair sp sp' b b' _ hm =>
    exact hm ▸ (PlainWrites.write .refl (inChipWindow_stackAddr sp) b).write (inChipWindow_stackAddr sp') b'

/-! #### The parts of a command -/

theorem frameDone_mem (caller : FrameCaller) (s : State) : (frameDone caller s).mem = s.mem := by
  cases caller <;> rfl

theorem terminalFrame_mem (s : State) : (terminalFrame s).mem = s.mem := by
  rw [terminalFrame_eq]

theorem accountFrame_mem (s : State) : (accountFrame s).mem = s.mem := by
  unfold accountFrame
  split <;> rfl

theorem emitRender_mem (count offset : Nat) (s : State) : (emitRender count offset s).mem = s.mem := by
  rw [emitRender_sameRest]

theorem fill_mem (sampleCount offset : Nat) (s : State) : (fill sampleCount offset s).mem = s.mem := by
  unfold fill
  split <;> rfl

theorem fillDone_mem (total : Nat) (s : State) : (fillDone total s).mem = s.mem := by
  unfold fillDone
  split <;> rfl

theorem finalSegment_mem (remaining total offset : Nat) (s : State) :
    (finalSegment remaining total offset s).mem = s.mem := by
  unfold finalSegment
  split
  · exact fillDone_mem total s
  · rw [fillDone_mem]
    exact emitRender_mem ..

section
variable {m : Memory} {s : State}

theorem startCall_plainWrites (hs : PlainWrites m s.mem) (c : CallReturn) (e : Word) (a : Byte) :
    PlainWrites m (startCall c e a s).mem := by
  rw [startCall_mem]
  exact (hs.write (c := 0x01FF) rfl 0).write (c := 0x01FE) rfl 0

theorem advanceFrame_plainWrites (hs : PlainWrites m s.mem) (caller : FrameCaller) :
    PlainWrites m (advanceFrame caller s).mem := by
  unfold advanceFrame
  split
  · rwa [frameDone_mem]
  · split
    · exact startCall_plainWrites hs ..
    · rwa [frameDone_mem, terminalFrame_mem]

theorem boundarySegment_plainWrites (hs : PlainWrites m s.mem) (k remaining total offset : Nat) :
    PlainWrites m (boundarySegment k remaining total offset s).mem := by
  unfold boundarySegment
  split
  · exact advanceFrame_plainWrites hs _
  · rw [← emitRender_mem k (offset + total * s.cfg.sampleStride) s] at hs
    exact advanceFrame_plainWrites (by exact hs) _

theorem fillTurn_plainWrites (hs : PlainWrites m s.mem) (remaining total offset : Nat) :
    PlainWrites m (fillTurn remaining total offset s).mem := by
  unfold fillTurn
  split
  · split
    · exact boundarySegment_plainWrites hs ..
    · rwa [finalSegment_mem]
  · rwa [finalSegment_mem]

theorem changeTrack_plainWrites (hs : PlainWrites m s.mem) (n : Int) : PlainWrites m (changeTrack n s).mem := by
  unfold changeTrack
  split
  · exact hs
  · split
    · exact hs
    · exact startCall_plainWrites (by exact hs) ..

theorem stepTrack_plainWrites (hs : PlainWrites m s.mem) (d : Int) : PlainWrites m (stepTrack d s).mem := by
  unfold stepTrack
  split
  · exact changeTrack_plainWrites hs _
  · exact hs

theorem loadTail_plainWrites (hs : PlainWrites m s.mem) : PlainWrites m (loadTail s).mem :=
  changeTrack_plainWrites (memWrite_plainWrites hs ..) _

/-- `load` starts from its image, R263: nothing of the memory before it is left. -/
theorem load_plainWrites (image : Memory) (initAddr playAddr : Word) (startTrack subsongCount speedFlag : Byte) :
    PlainWrites image (load image initAddr playAddr startTrack subsongCount speedFlag s).mem := by
  unfold load
  split
  · exact startCall_plainWrites (by exact .refl) ..
  · exact loadTail_plainWrites .refl

theorem resume_plainWrites (hs : PlainWrites m s.mem) (caller : CallReturn) (total : Nat) :
    PlainWrites m (resume caller total s).mem := by
  cases caller with
  | bench => exact hs
  | loadVector => exact loadTail_plainWrites (by exact hs)
  | trackInit => exact advanceFrame_plainWrites (by exact hs) _
  | play frameCaller =>
    rw [resume, frameDone_mem, accountFrame_mem]
    exact hs

end

/-- A command writes plain bytes into `Mem`, or it is a `load` and writes them into its image. -/
theorem accept_plainWrites {c : HostCommand} {s t : State} (h : accept c s = .next t) :
    PlainWrites s.mem t.mem ∨
    ∃ image ia pa st sc sf, c = .load image ia pa st sc sf ∧ Memory.wf image = true ∧ PlainWrites image t.mem := by
  cases c with
  | load image ia pa st sc sf =>
    simp only [accept] at h
    split at h
    · next hwf =>
      cases h
      exact .inr ⟨image, ia, pa, st, sc, sf, rfl, hwf, load_plainWrites ..⟩
    · cases h
  | changeTrack n => cases h; exact .inl (changeTrack_plainWrites .refl n)
  | nextTrack => cases h; exact .inl (stepTrack_plainWrites .refl 1)
  | prevTrack => cases h; exact .inl (stepTrack_plainWrites .refl (-1))
  | stop => cases h; exact .inl .refl
  | advanceFrame => cases h; exact .inl (advanceFrame_plainWrites .refl .host)
  | fill n offset => cases h; rw [fill_mem]; exact .inl .refl
  | coreStep =>
    obtain ⟨u, hu, he⟩ := coreStep_effect s
    simp only [accept, hu] at h
    cases h
    exact .inl he.plainWrites
  | coreReset => cases h; exact .inl .refl
  | coreResetTo pc a => cases h; exact .inl .refl
  | coreRunSubroutine e a => cases h; exact .inl (startCall_plainWrites .refl ..)

/-- Everything a step can do to `Mem`: plain writes, into the memory before it or into the image of the `load` that it
accepts. -/
theorem step_plainWrites {s t : State} (h : step s = .next t) :
    PlainWrites s.mem t.mem ∨
    s.acceptsLoad = true ∧ ∃ image, Memory.wf image = true ∧ PlainWrites image t.mem := by
  rcases machineStep_cases h with ⟨-, -, rfl⟩ | ⟨c, rest, hp, hc, ha⟩ | ⟨caller, total, -, -, rfl⟩ |
    ⟨caller, total, u, -, -, he, rfl⟩ | ⟨remaining, total, offset, -, rfl⟩
  · exact .inl .refl
  · rcases accept_plainWrites ha with hw | ⟨image, ia, pa, st, sc, sf, rfl, hwf, hw⟩
    · exact .inl hw
    · exact .inr ⟨by simp [State.acceptsLoad, hp, hc], image, hwf, hw⟩
  · exact .inl (resume_plainWrites .refl ..)
  · exact .inl he.plainWrites
  · exact .inl (fillTurn_plainWrites .refl ..)

end Sys2Proof.Machine

namespace Sys2Proof.Proofs.StateFamily
open Sys2Proof.Machine

/-- Settles O13: the memory before the step or the image of a `load` is canonical, and plain writes keep it so. -/
theorem stepKeepsMemoryCanonical : Obligations.StepKeepsMemoryCanonical := by
  unfold Obligations.StepKeepsMemoryCanonical
  intro s t hs hstep
  rcases step_plainWrites hstep with hw | ⟨-, image, hwf, hw⟩
  · exact hw.wf hs
  · exact hw.wf hwf

end Sys2Proof.Proofs.StateFamily
end

section
/-! Canonical memories that read alike; the values at reset. -/

namespace Sys2Proof.Machine

theorem Memory.wfFrom_cons {lo k : Nat} {v : Byte} {rest : Memory} :
    Memory.wfFrom lo ((k, v) :: rest) = true ↔
      lo ≤ k ∧ k < 65536 ∧ v ≠ unlistedByte ∧ Memory.wfFrom (k + 1) rest = true := by
  simp [Memory.wfFrom, and_assoc]

@[simp] theorem Memory.read_head (k : Nat) (v : Byte) (rest : Memory) : Memory.read ((k, v) :: rest) k = v :=
  if_pos rfl

theorem Memory.read_tail {k a : Nat} (h : k ≠ a) (v : Byte) (rest : Memory) :
    Memory.read ((k, v) :: rest) a = Memory.read rest a :=
  if_neg h

/-- A canonical memory that reads like another at the lowest address the other lists does not start above it: the
other does not read as unlisted there. -/
theorem Memory.not_wfFrom_above {lo k : Nat} {v : Byte} {rest m : Memory}
    (hwf : Memory.wfFrom lo ((k, v) :: rest) = true) (h : Memory.read m k = Memory.read ((k, v) :: rest) k) :
    ¬Memory.wfFrom (k + 1) m = true := by
  intro hm
  obtain ⟨-, -, hv, -⟩ := Memory.wfFrom_cons.1 hwf
  rw [Memory.read_below hm (Nat.lt_succ_self k), Memory.read_head] at h
  exact hv h.symm

/-- The canonical form is one list for each function from addresses to bytes. -/
theorem Memory.eq_of_read_eq {lo : Nat} {m m' : Memory} (hm : Memory.wfFrom lo m = true)
    (hm' : Memory.wfFrom lo m' = true) (h : ∀ a < 65536, Memory.read m a = Memory.read m' a) : m = m' := by
  induction m generalizing lo m' with
  | nil =>
    cases m' with
    | nil => rfl
    | cons d' rest' =>
      obtain ⟨k', v'⟩ := d'
      obtain ⟨-, hk', -⟩ := Memory.wfFrom_cons.1 hm'
      exact absurd rfl (Memory.not_wfFrom_above hm' (h k' hk'))
  | cons d rest ih =>
    obtain ⟨k, v⟩ := d
    obtain ⟨hlo, hk, hv, hrest⟩ := Memory.wfFrom_cons.1 hm
    cases m' with
    | nil => exact absurd rfl (Memory.not_wfFrom_above hm (h k hk).symm)
    | cons d' rest' =>
      obtain ⟨k', v'⟩ := d'
      obtain ⟨hlo', hk', hv', hrest'⟩ := Memory.wfFrom_cons.1 hm'
      rcases Nat.lt_trichotomy k k' with hlt | rfl | hlt
      · exact absurd (Memory.wfFrom_cons.2 ⟨hlt, hk', hv', hrest'⟩) (Memory.not_wfFrom_above hm (h k hk).symm)
      · have hvv : v = v' := by simpa using h k hk
        have htail : ∀ a < 65536, Memory.read rest a = Memory.read rest' a := by
          intro a ha
          by_cases hka : k = a
          · rw [Memory.read_below hrest (by omega), Memory.read_below hrest' (by omega)]
          · simpa only [Memory.read_tail hka] using h a ha
        rw [hvv, ih hrest hrest' htail]
      · exact absurd (Memory.wfFrom_cons.2 ⟨hlt, hk, hv, hrest⟩) (Memory.not_wfFrom_above hm' (h k' hk'))

end Sys2Proof.Machine

namespace Sys2Proof.Proofs.StateFamily
open Sys2Proof.Machine

/-- Settles O12: every address below 65536 is a word, so the two lists read alike and are one. -/
theorem equalReadsEqualMemories : Obligations.EqualReadsEqualMemories := by
  unfold Obligations.EqualReadsEqualMemories
  intro s t hs ht h
  refine Memory.eq_of_read_eq hs ht fun a ha => ?_
  have hread := h (BitVec.ofNat 16 a)
  rwa [memRead, memRead, BitVec.toNat_ofNat, Nat.mod_eq_of_lt ha] at hread

/-- Settles O16: each value is the one the reset state is given; the reset vector and every byte are read from an empty
list. -/
theorem resetState : Obligations.ResetState := by
  unfold Obligations.ResetState
  exact ⟨rfl, rfl, rfl, rfl, rfl, rfl, fun _ => rfl, rfl, rfl, rfl, rfl, rfl⟩

/-- Settles O17: the reset state is not ready, no track is written, its counter is not null and no command is in
progress. -/
theorem resetMeetsTheInvariants : Obligations.ResetMeetsTheInvariants := by
  unfold Obligations.ResetMeetsTheInvariants
  refine ⟨rfl, ?_⟩
  exact {
    ready_playable := fun h => nomatch h
    ready_counter_pos := fun h => nomatch h
    track_in_range := fun h => nomatch h
    null_finished := fun h => nomatch h
    phase_inv := trivial }

end Sys2Proof.Proofs.StateFamily
end

section
/-! The bits of `P`: what `SetNZ` writes, and that each bit is changed by its writers alone (R25). -/

namespace Sys2Proof.Machine
open Sys2Proof.Claims

/-! ### The bits a flag computation keeps -/

section
variable {k : Nat}

theorem setFlag_keeps {f : Flag} (h : k ≠ f.bit) (b : Bool) (p : Byte) :
    (setFlag f b p).getLsbD k = p.getLsbD k := by
  rw [setFlag_bit, if_neg h]

theorem setNZ_keeps (h7 : k ≠ 7) (h1 : k ≠ 1) (v p : Byte) : (setNZ v p).getLsbD k = p.getLsbD k := by
  rw [setNZ_bit, if_neg h7, if_neg h1]

/-- The shifts write C and then N and Z. -/
theorem setNZ_setFlag_c_keeps (h7 : k ≠ 7) (h1 : k ≠ 1) (h0 : k ≠ 0) (v : Byte) (b : Bool) (p : Byte) :
    (setNZ v (setFlag .c b p)).getLsbD k = p.getLsbD k :=
  (setNZ_keeps h7 h1 ..).trans (setFlag_keeps h0 ..)

theorem compareFlags_keeps (h7 : k ≠ 7) (h1 : k ≠ 1) (h0 : k ≠ 0) (reg m p : Byte) :
    (compareFlags reg m p).getLsbD k = p.getLsbD k :=
  (setFlag_keeps h0 ..).trans (setNZ_keeps h7 h1 ..)

theorem bitFlags_keeps (h7 : k ≠ 7) (h6 : k ≠ 6) (h1 : k ≠ 1) (a m p : Byte) :
    (bitFlags a m p).getLsbD k = p.getLsbD k := by
  rw [bitFlags_bit, if_neg h6, if_neg h7, if_neg h1]

theorem addWithCarry_keeps (h7 : k ≠ 7) (h6 : k ≠ 6) (h1 : k ≠ 1) (h0 : k ≠ 0) (a m p : Byte) :
    (addWithCarry a m p).2.getLsbD k = p.getLsbD k := by
  rw [addWithCarry_bit]
  simp only [if_neg h6, if_neg h7, if_neg h1, if_neg h0]

end

/-! ### Read-modify-write, by mnemonic -/

/-- The byte function of a read-modify-write mnemonic (R180 to R185). -/
def rmwByte : Mnemonic → Option (Byte → Byte → Byte × Byte)
  | .ASL => some aslByte
  | .LSR => some lsrByte
  | .ROL => some rolByte
  | .ROR => some rorByte
  | .INC => some incByte
  | .DEC => some decByte
  | _ => none

theorem rmwEffect_eq (mn : Mnemonic) (m : RmwMode) (s : State) :
    rmwEffect mn m s = (rmwByte mn).elim s fun f => rmw m m.cycles f s := by
  cases mn <;> rfl

/-! ### The writers of a bit -/

/-- A bit that an instruction does not write is none of those it does. -/
theorem ne_of_writes {mn : Mnemonic} {k b : Nat} (h : mn ∉ flagWriters k) (hb : mn ∈ flagWriters b) : k ≠ b :=
  fun e => h (e ▸ hb)

/-- `PLP` writes all eight bits (R28). -/
theorem plp_mem_flagWriters (k : Nat) : Mnemonic.PLP ∈ flagWriters k := by
  unfold flagWriters
  split <;> decide

section
variable {mn : Mnemonic} {k : Nat} (h : mn ∉ flagWriters k) (s : State)
include h

theorem readEffect_p_bit (m : ReadMode) : (readEffect mn m s).p.getLsbD k = s.p.getLsbD k := by
  cases mn with
  | LDA | LDX | LDY | AND | ORA | EOR =>
    exact setNZ_keeps (ne_of_writes h (by decide)) (ne_of_writes h (by decide)) ..
  | ADC | SBC =>
    exact addWithCarry_keeps (ne_of_writes h (by decide)) (ne_of_writes h (by decide)) (ne_of_writes h (by decide))
      (ne_of_writes h (by decide)) ..
  | CMP | CPX | CPY =>
    exact compareFlags_keeps (ne_of_writes h (by decide)) (ne_of_writes h (by decide)) (ne_of_writes h (by decide)) ..
  | BIT =>
    exact bitFlags_keeps (ne_of_writes h (by decide)) (ne_of_writes h (by decide)) (ne_of_writes h (by decide)) ..
  | _ => rfl

omit h in
/-- A store writes no flag. -/
theorem storeEffect_p (m : MemMode) : (storeEffect mn m s).p = s.p := by
  cases mn with
  | STA | STX | STY => exact putOperand_p ..
  | _ => rfl

theorem rmwByte_keeps {f : Byte → Byte → Byte × Byte} (hf : rmwByte mn = some f) (v p : Byte) :
    (f v p).2.getLsbD k = p.getLsbD k := by
  cases mn with
  | ASL | LSR | ROL | ROR =>
    cases hf
    exact setNZ_setFlag_c_keeps (ne_of_writes h (by decide)) (ne_of_writes h (by decide))
      (ne_of_writes h (by decide)) ..
  | INC | DEC =>
    cases hf
    exact setNZ_keeps (ne_of_writes h (by decide)) (ne_of_writes h (by decide)) ..
  | _ => cases hf

theorem rmwEffect_p_bit (m : RmwMode) : (rmwEffect mn m s).p.getLsbD k = s.p.getLsbD k := by
  rw [rmwEffect_eq]
  cases hf : rmwByte mn with
  | none => rfl
  | some f => exact (congrArg (·.getLsbD k) (rmw_p ..)).trans (rmwByte_keeps h hf ..)

theorem impliedEffect_p_bit : (impliedEffect mn s).p.getLsbD k = s.p.getLsbD k := by
  cases mn with
  | TAX | TAY | TXA | TYA | TSX | PLA | INX | INY | DEX | DEY =>
    exact setNZ_keeps (ne_of_writes h (by decide)) (ne_of_writes h (by decide)) ..
  | CLC | SEC | CLI | SEI | CLD | SED | CLV => exact setFlag_keeps (ne_of_writes h (by decide)) ..
  | PLP => exact absurd (plp_mem_flagWriters k) h
  | PHA | PHP => exact congrArg (·.getLsbD k) (push_p ..)
  | _ => rfl

omit h in
/-- A branch writes no flag. -/
theorem branchEffect_p (d : Byte) : (branchEffect mn d s).p = s.p := by
  cases mn with
  | BCC | BCS | BEQ | BNE | BMI | BPL | BVC | BVS => exact branch_p ..
  | _ => rfl

omit h in
/-- A jump or a call writes no flag. -/
theorem absTarget_p (t : Word) : (formEffect (.absTarget mn t) s).p = s.p := by
  cases mn with
  | JSR => exact jsrOp_p t s
  | _ => rfl

omit h in
/-- An indirect jump writes no flag. -/
theorem indTarget_p (t : Word) : (formEffect (.indTarget mn t) s).p = s.p := by
  cases mn <;> rfl

end

/-- A bit of `P` that an instruction is not listed as a writer of is as before (R25). -/
theorem formEffect_p_bit {f : Form} {k : Nat} (h : f.mnemonic ∉ flagWriters k) (s : State) :
    (formEffect f s).p.getLsbD k = s.p.getLsbD k := by
  cases f with
  | implied mn => exact impliedEffect_p_bit h s
  | read mn m => exact readEffect_p_bit h s m
  | store mn m => exact congrArg (·.getLsbD k) (storeEffect_p s m)
  | rmw mn m => exact rmwEffect_p_bit h s m
  | branch mn d => exact congrArg (·.getLsbD k) (branchEffect_p s d)
  | absTarget mn t => exact congrArg (·.getLsbD k) (absTarget_p s t)
  | indTarget mn t => exact congrArg (·.getLsbD k) (indTarget_p s t)

end Sys2Proof.Machine

namespace Sys2Proof.Proofs.StateFamily
open Sys2Proof.Machine

/-- Settles O28: bit 7 of a byte says whether it is at least 128, and a byte is 0 when its number is. -/
theorem setNZ : Obligations.SetNZ := by
  unfold Obligations.SetNZ
  intro v p k _
  have hz : (v == 0) = decide (v.toNat = 0) := by
    rw [beq_eq_decide, decide_eq_decide, ← BitVec.toNat_inj]
    rfl
  rw [setNZ_bit, BitVec.msb_eq_decide, hz]

/-- Settles O31, by the class of the instruction. -/
theorem flagsHaveOnlyTheirWriters : Obligations.FlagsHaveOnlyTheirWriters := by
  unfold Obligations.FlagsHaveOnlyTheirWriters
  intro i s t k hexec hk
  rw [exec_next_effect hexec]
  exact formEffect_p_bit hk s

end Sys2Proof.Proofs.StateFamily
end

section
/-! D, I and bits 4 and 5 of `P` influence nothing but themselves and what `PHP` pushes (R26, R28). -/

namespace Sys2Proof.Machine

/-! ### Two status registers with the same N, V, Z and C -/

/-- `p` and `q` differ at most in bits 2 to 5. -/
def SameNVZC (p q : Byte) : Prop := q &&& 0xC3 = p &&& 0xC3

/-- The flags that instructions read. -/
theorem sameNVZC_iff {p q : Byte} : SameNVZC p q ↔ ∀ f, f ≠ .d → f ≠ .i → flag f q = flag f p := by
  constructor
  · intro h f hd hi
    have hbit := congrArg (·.getLsbD f.bit) h
    rw [flag_eq_bit, flag_eq_bit]
    cases f <;> simp_all [Flag.bit]
  · intro h
    have hn := h .n (by decide) (by decide)
    have hv := h .v (by decide) (by decide)
    have hz := h .z (by decide) (by decide)
    have hc := h .c (by decide) (by decide)
    simp only [flag_eq_bit, Flag.bit] at hn hv hz hc
    refine BitVec.eq_of_getLsbD_eq fun k hk => ?_
    interval_cases k <;> simp_all

namespace SameNVZC
variable {p q : Byte} (h : SameNVZC p q)
include h

theorem flag_eq {f : Flag} (hd : f ≠ .d) (hi : f ≠ .i) : flag f q = flag f p := sameNVZC_iff.1 h f hd hi

theorem setFlag (f : Flag) (b : Bool) : SameNVZC (setFlag f b p) (setFlag f b q) :=
  sameNVZC_iff.2 fun g hd hi => by rw [flag_setFlag, flag_setFlag, h.flag_eq hd hi]

theorem setNZ (v : Byte) : SameNVZC (setNZ v p) (setNZ v q) := (h.setFlag ..).setFlag ..

theorem compareFlags (reg m : Byte) : SameNVZC (compareFlags reg m p) (compareFlags reg m q) := (h.setNZ _).setFlag ..

theorem bitFlags (a m : Byte) : SameNVZC (bitFlags a m p) (bitFlags a m q) :=
  ((h.setFlag ..).setFlag ..).setFlag ..

/-- The sum takes C alone from `P`. -/
theorem addWithCarry_fst (a m : Byte) : (addWithCarry a m q).1 = (addWithCarry a m p).1 := by
  rw [Machine.addWithCarry_fst, Machine.addWithCarry_fst, h.flag_eq (by decide) (by decide)]

theorem addWithCarry_snd (a m : Byte) : SameNVZC (addWithCarry a m p).2 (addWithCarry a m q).2 := by
  simp only [addWithCarry]
  rw [h.flag_eq (f := .c) (by decide) (by decide)]
  have h' := fun b v => (h.setFlag .c b).setNZ v
  rw [(h' _ _).flag_eq (f := .c) (by decide) (by decide), (h' _ _).flag_eq (f := .n) (by decide) (by decide)]
  exact (h' _ _).setFlag ..

/-- A rotate takes C alone from `P`; the others take nothing. -/
theorem rmwByte {mn : Mnemonic} {f : Byte → Byte → Byte × Byte} (hf : rmwByte mn = some f) (v : Byte) :
    (f v q).1 = (f v p).1 ∧ SameNVZC (f v p).2 (f v q).2 := by
  have hc := h.flag_eq (f := .c) (by decide) (by decide)
  cases mn with
  | ASL | LSR => cases hf; exact ⟨rfl, (h.setFlag ..).setNZ _⟩
  | ROL =>
    cases hf
    simp only [rolByte, hc, true_and]
    exact (h.setFlag ..).setNZ _
  | ROR =>
    cases hf
    simp only [rorByte, hc, true_and]
    exact (h.setFlag ..).setNZ _
  | INC | DEC => cases hf; exact ⟨rfl, h.setNZ _⟩
  | _ => cases hf

end SameNVZC

/-! ### What does not look at `P` -/

section
variable (s : State) (q : Byte)

theorem setA_setP (v : Byte) : (s.setP q).setA v = (s.setA v).setP q := rfl
theorem setX_setP (v : Byte) : (s.setP q).setX v = (s.setX v).setP q := rfl
theorem setY_setP (v : Byte) : (s.setP q).setY v = (s.setY v).setP q := rfl
theorem setSp_setP (v : Byte) : (s.setP q).setSp v = (s.setSp v).setP q := rfl
theorem setPc_setP (v : Word) : (s.setP q).setPc v = (s.setPc v).setP q := rfl
theorem setP_setP (q' : Byte) : (s.setP q).setP q' = s.setP q' := rfl
theorem advance_setP (len cycles : Nat) : (s.setP q).advance len cycles = (s.advance len cycles).setP q := rfl

theorem effAddr_setP (m : MemMode) : effAddr m (s.setP q) = effAddr m s := by
  cases m <;> rfl

theorem operand_setP (m : ReadMode) : operand m (s.setP q) = operand m s := by
  cases m with
  | imm v => rfl
  | mem m => rw [operand, operand, effAddr_setP, memRead_setP]

theorem readAdvance_setP (m : ReadMode) (base : Nat) :
    readAdvance m base (s.setP q) = (readAdvance m base s).setP q := by
  cases m with
  | imm v => rfl
  | mem m => rw [readAdvance, penalty, effAddr_setP, advance_setP]; rfl

theorem memWrite_setP (c : Word) (b : Byte) : memWrite c b (s.setP q) = (memWrite c b s).setP q := by
  unfold memWrite
  split <;> rfl

theorem putOperand_setP (m : MemMode) (base : Nat) (v : Byte) :
    putOperand m base v (s.setP q) = (putOperand m base v s).setP q := by
  rw [putOperand, effAddr_setP, advance_setP, memWrite_setP, putOperand]

theorem push_setP (v : Byte) : push v (s.setP q) = (push v s).setP q := by
  rw [push, memWrite_setP, setSp_setP, push, State.setP_sp]

theorem branch_setP (cond : Bool) (d : Byte) : branch cond d (s.setP q) = (branch cond d s).setP q := by
  cases cond <;> rfl

theorem jsrOp_setP (t : Word) : jsrOp t (s.setP q) = (jsrOp t s).setP q := by
  simp only [jsrOp, advance_setP, push_setP, setPc_setP, State.setP_pc]

end

/-! ### Two states with the same N, V, Z and C -/

/-- `t` is `s` but for bits 2 to 5 of `P`. -/
def SameButDI (s t : State) : Prop := ∃ q, SameNVZC s.p q ∧ t = s.setP q

section
variable {s : State} {q : Byte} (h : SameNVZC s.p q) (mn : Mnemonic)
include h

theorem readEffect_sameButDI (m : ReadMode) : SameButDI (readEffect mn m s) (readEffect mn m (s.setP q)) := by
  cases mn with
  | LDA | LDX | LDY =>
    simp only [readEffect, ldaOp, ldxOp, ldyOp, readAdvance_setP, operand_setP]
    exact ⟨_, h.setNZ _, rfl⟩
  | AND | ORA | EOR =>
    simp only [readEffect, andOp, oraOp, eorOp, readAdvance_setP, operand_setP]
    exact ⟨_, h.setNZ _, rfl⟩
  | CMP | CPX | CPY =>
    simp only [readEffect, cmpOp, cpxOp, cpyOp, readAdvance_setP, operand_setP]
    exact ⟨_, h.compareFlags .., rfl⟩
  | ADC | SBC =>
    simp only [readEffect, adcOp, sbcOp, readAdvance_setP, operand_setP, State.setP_a, State.setP_p, h.addWithCarry_fst]
    exact ⟨_, h.addWithCarry_snd .., rfl⟩
  | BIT =>
    simp only [readEffect, bitOp, readAdvance_setP, operand_setP]
    exact ⟨_, h.bitFlags .., rfl⟩
  | _ => exact ⟨q, h, rfl⟩

theorem storeEffect_sameButDI (m : MemMode) : SameButDI (storeEffect mn m s) (storeEffect mn m (s.setP q)) := by
  refine ⟨q, (storeEffect_p s m).symm ▸ h, ?_⟩
  cases mn with
  | STA | STX | STY => exact putOperand_setP ..
  | _ => rfl

omit h in
theorem rmw_sameButDI {f : Byte → Byte → Byte × Byte}
    (hf : ∀ v, (f v q).1 = (f v s.p).1 ∧ SameNVZC (f v s.p).2 (f v q).2) (m : RmwMode) (base : Nat) :
    SameButDI (rmw m base f s) (rmw m base f (s.setP q)) := by
  obtain ⟨hr, hp⟩ := hf (rmwOperand m s)
  refine ⟨_, (rmw_p ..).symm ▸ hp, ?_⟩
  cases m with
  | acc =>
    simp only [rmwOperand] at hr
    simp only [rmw, advance_setP, State.setP_a, State.setP_p, hr]
    rfl
  | mem m =>
    simp only [rmwOperand] at hr
    simp only [rmw, advance_setP, effAddr_setP, memRead_setP, State.setP_p, hr, memWrite_setP]
    rfl

theorem rmwEffect_sameButDI (m : RmwMode) : SameButDI (rmwEffect mn m s) (rmwEffect mn m (s.setP q)) := by
  rw [rmwEffect_eq, rmwEffect_eq]
  cases hf : rmwByte mn with
  | none => exact ⟨q, h, rfl⟩
  | some f => exact rmw_sameButDI (h.rmwByte hf) ..

/-- `PHP` is left out: it pushes all eight bits (R153). -/
theorem impliedEffect_sameButDI (hmn : mn ≠ .PHP) : SameButDI (impliedEffect mn s) (impliedEffect mn (s.setP q)) := by
  cases mn with
  | TAX | TAY | TXA | TYA | TSX | PLA | INX | INY | DEX | DEY => exact ⟨_, h.setNZ _, rfl⟩
  | CLC | SEC | CLI | SEI | CLD | SED | CLV => exact ⟨_, h.setFlag .., rfl⟩
  | PHA => exact ⟨q, (push_p ..).symm ▸ h, push_setP (s.advance 1 3) q s.a⟩
  | PHP => exact absurd rfl hmn
  | PLP => exact ⟨_, rfl, rfl⟩
  | _ => exact ⟨q, h, rfl⟩

theorem branchEffect_sameButDI (d : Byte) : SameButDI (branchEffect mn d s) (branchEffect mn d (s.setP q)) := by
  refine ⟨q, (branchEffect_p s d).symm ▸ h, ?_⟩
  have hflag : ∀ f, f ≠ .d → f ≠ .i → (s.setP q).flag f = s.flag f := fun f hd hi => h.flag_eq hd hi
  cases mn with
  | BCC | BCS | BEQ | BNE | BMI | BPL | BVC | BVS =>
    simp only [branchEffect, ne_eq, reduceCtorEq, not_false_eq_true, hflag, branch_setP]
  | _ => rfl

theorem absTarget_sameButDI (t : Word) :
    SameButDI (formEffect (.absTarget mn t) s) (formEffect (.absTarget mn t) (s.setP q)) := by
  refine ⟨q, (absTarget_p s t).symm ▸ h, ?_⟩
  cases mn with
  | JSR => exact jsrOp_setP ..
  | _ => rfl

theorem indTarget_sameButDI (p : Word) :
    SameButDI (formEffect (.indTarget mn p) s) (formEffect (.indTarget mn p) (s.setP q)) := by
  refine ⟨q, (indTarget_p s p).symm ▸ h, ?_⟩
  cases mn <;> rfl

end

/-- Every instruction but `PHP` keeps two states alike but for bits 2 to 5 of `P`. -/
theorem formEffect_sameButDI {s : State} {q : Byte} (h : SameNVZC s.p q) {f : Form} (hf : f.mnemonic ≠ .PHP) :
    SameButDI (formEffect f s) (formEffect f (s.setP q)) := by
  cases f with
  | implied mn => exact impliedEffect_sameButDI h mn hf
  | read mn m => exact readEffect_sameButDI h mn m
  | store mn m => exact storeEffect_sameButDI h mn m
  | rmw mn m => exact rmwEffect_sameButDI h mn m
  | branch mn d => exact branchEffect_sameButDI h mn d
  | absTarget mn t => exact absTarget_sameButDI h mn t
  | indTarget mn p => exact indTarget_sameButDI h mn p

end Sys2Proof.Machine

namespace Sys2Proof.Proofs.StateFamily
open Sys2Proof.Machine

/-- Settles O32, by the class of the instruction. -/
theorem decimalAndInterruptFlagsDoNothing : Obligations.DecimalAndInterruptFlagsDoNothing := by
  unfold Obligations.DecimalAndInterruptFlagsDoNothing
  intro i s q hi hq
  obtain ⟨q', hq', hu⟩ := formEffect_sameButDI hq hi
  exact ⟨_, _, exec_eq_effect i s, exec_eq_effect i (s.setP q), by rw [hu]; rfl, by rw [hu]; exact hq'⟩

end Sys2Proof.Proofs.StateFamily
end

section
/-! Where `PC` stands after an instruction that transfers no control (R23). -/

namespace Sys2Proof

/-- The number of bytes of an encoding is the length R84 gives its row. -/
theorem encode_length (i : Instr) : (encode i).length = i.length := by
  cases i <;> rfl

/-- Whether a pair of class and mnemonic is in the opcode table (R85). -/
def Form.inTable : Form → Bool
  | .implied mn => [Mnemonic.TAX, .TAY, .TXA, .TYA, .TSX, .TXS, .PHA, .PHP, .PLA, .PLP, .INX, .INY, .DEX, .DEY, .RTS,
      .RTI, .BRK, .CLC, .SEC, .CLI, .SEI, .CLD, .SED, .CLV, .NOP, .ILL].contains mn
  | .read mn _ => [Mnemonic.LDA, .LDX, .LDY, .ADC, .SBC, .CMP, .CPX, .CPY, .AND, .ORA, .EOR, .BIT].contains mn
  | .store mn _ => [Mnemonic.STA, .STX, .STY].contains mn
  | .rmw mn _ => [Mnemonic.ASL, .LSR, .ROL, .ROR, .INC, .DEC].contains mn
  | .branch mn _ => [Mnemonic.BCC, .BCS, .BEQ, .BNE, .BMI, .BPL, .BVC, .BVS].contains mn
  | .absTarget mn _ => [Mnemonic.JMP, .JSR].contains mn
  | .indTarget mn _ => mn == .JMP

/-- Every instruction is a row of the table. -/
theorem Instr.form_inTable (i : Instr) : i.form.inTable = true := by
  cases i <;> rfl

namespace Machine
open Sys2Proof.Claims

/-- The instruction goes on to the one that follows it: it is no control transfer, or a branch that is not taken. -/
def GoesOn (mn : Mnemonic) (p : Byte) : Prop := mn ∉ controlTransfers ∨ branchTaken mn p = some false

/-- A control transfer that is no branch does not. -/
theorem not_goesOn {mn : Mnemonic} {p : Byte} (hmn : mn ∈ controlTransfers) (hb : branchTaken mn p = none) :
    ¬GoesOn mn p := by
  rintro (h | h)
  · exact h hmn
  · rw [hb] at h
    cases h

/-- The condition of each branch, read from the bits of `P`. -/
theorem branchEffect_eq {mn : Mnemonic} {s : State} {taken : Bool} (h : branchTaken mn s.p = some taken) (d : Byte) :
    branchEffect mn d s = branch taken d s := by
  cases mn with
  | BCC | BCS | BEQ | BNE | BMI | BPL | BVC | BVS =>
    cases h
    simp only [branchEffect, State.flag, flag_eq_bit, Flag.bit]
  | _ => cases h

section
variable {mn : Mnemonic} {s : State}

theorem putOperand_pc (m : MemMode) (base : Nat) (v : Byte) :
    (putOperand m base v s).pc = s.pc + BitVec.ofNat 16 m.length := by
  simp [putOperand]

theorem rmw_pc (m : RmwMode) (base : Nat) (f : Byte → Byte → Byte × Byte) :
    (rmw m base f s).pc = s.pc + BitVec.ofNat 16 m.length := by
  cases m with
  | acc => rfl
  | mem m => simp [rmw, RmwMode.length]

theorem readEffect_pc {m : ReadMode} (h : (Form.read mn m).inTable = true) :
    (readEffect mn m s).pc = s.pc + BitVec.ofNat 16 m.length := by
  cases mn with
  | LDA | LDX | LDY | ADC | SBC | CMP | CPX | CPY | AND | ORA | EOR | BIT => rfl
  | _ => cases h

theorem storeEffect_pc {m : MemMode} (h : (Form.store mn m).inTable = true) :
    (storeEffect mn m s).pc = s.pc + BitVec.ofNat 16 m.length := by
  cases mn with
  | STA | STX | STY => exact putOperand_pc ..
  | _ => cases h

theorem rmwEffect_pc {m : RmwMode} (h : (Form.rmw mn m).inTable = true) :
    (rmwEffect mn m s).pc = s.pc + BitVec.ofNat 16 m.length := by
  cases mn with
  | ASL | LSR | ROL | ROR | INC | DEC => exact rmw_pc ..
  | _ => cases h

theorem impliedEffect_pc (h : (Form.implied mn).inTable = true) (hgo : GoesOn mn s.p) :
    (impliedEffect mn s).pc = s.pc + 1 := by
  cases mn with
  | RTS | RTI | BRK => exact absurd hgo (not_goesOn (by decide) rfl)
  | PHA | PHP => exact push_pc ..
  | TAX | TAY | TXA | TYA | TSX | TXS | PLA | PLP | INX | INY | DEX | DEY | CLC | SEC | CLI | SEI | CLD | SED | CLV
  | NOP | ILL => rfl
  | _ => cases h

theorem branchEffect_pc {d : Byte} (h : (Form.branch mn d).inTable = true) (hgo : GoesOn mn s.p) :
    (branchEffect mn d s).pc = s.pc + 2 := by
  have hb : branchTaken mn s.p = some false := by
    refine hgo.resolve_left fun hnot => ?_
    cases mn with
    | BCC | BCS | BEQ | BNE | BMI | BPL | BVC | BVS => exact hnot (by decide)
    | _ => cases h
  rw [branchEffect_eq hb]
  rfl

end

/-- An instruction that goes on leaves `PC` after its own bytes (R23, R84). -/
theorem formEffect_pc {f : Form} {s : State} (h : f.inTable = true) (hgo : GoesOn f.mnemonic s.p) :
    (formEffect f s).pc = s.pc + BitVec.ofNat 16 f.length := by
  cases f with
  | implied mn => exact impliedEffect_pc h hgo
  | read mn m => exact readEffect_pc h
  | store mn m => exact storeEffect_pc h
  | rmw mn m => exact rmwEffect_pc h
  | branch mn d => exact branchEffect_pc h hgo
  | absTarget mn t =>
    cases mn with
    | JMP => exact absurd hgo (not_goesOn (mn := .JMP) (by decide) rfl)
    | JSR => exact absurd hgo (not_goesOn (mn := .JSR) (by decide) rfl)
    | _ => cases h
  | indTarget mn p =>
    cases mn with
    | JMP => exact absurd hgo (not_goesOn (mn := .JMP) (by decide) rfl)
    | _ => cases h

end Machine

end Sys2Proof

namespace Sys2Proof.Proofs.StateFamily
open Sys2Proof.Machine

/-- Settles O34, by the class of the instruction. -/
theorem pcAdvancesByLength : Obligations.PcAdvancesByLength := by
  unfold Obligations.PcAdvancesByLength
  intro i s t hexec hgo
  have hpc : t.pc = s.pc + BitVec.ofNat 16 (encode i).length := by
    rw [exec_next_effect hexec, encode_length]
    exact formEffect_pc i.form_inTable hgo
  rw [hpc, BitVec.toNat_add, BitVec.toNat_ofNat, Nat.add_mod_mod]

end Sys2Proof.Proofs.StateFamily
end

section
/-! The obligations of spec/20_memory.md: the write path and the chip window, whose bytes only a `load` changes; a store
is seen by the fetch that follows it. -/

namespace Sys2Proof.Machine
open Sys2Proof.Claims

/-! ### The chip window -/

/-- The mask `0xFC00` keeps the top six bits, so the window is one block of 1024 addresses (R53). -/
theorem maskedToWindow_iff (c : Word) : c &&& 0xFC00 = 0xD400 ↔ 0xD400 ≤ c.toNat ∧ c.toNat ≤ 0xD7FF := by
  have hmask : c &&& (0xFC00 : Word) = c >>> 10 <<< 10 := (BitVec.shiftLeft_ushiftRight (x := c) (n := 10)).symm
  have hbase : (0xD400 : Word).toNat = 0xD400 := rfl
  have hc := c.isLt
  rw [hmask, ← BitVec.toNat_inj, BitVec.toNat_shiftLeft, BitVec.toNat_ushiftRight, Nat.shiftLeft_eq,
    Nat.shiftRight_eq_div_pow, hbase]
  omega

theorem inChipWindow_iff_masked (c : Word) : inChipWindow c = true ↔ c &&& 0xFC00 = 0xD400 := beq_iff_eq

theorem inChipWindow_iff (c : Word) : inChipWindow c = true ↔ 0xD400 ≤ c.toNat ∧ c.toNat ≤ 0xD7FF :=
  (inChipWindow_iff_masked c).trans (maskedToWindow_iff c)

/-- The pokes of R53 in integers: the register is the address modulo 32. -/
theorem chipWrite_eq (c : Word) (b : Byte) :
    chipWrite c b = if 0xD418 < c.toNat then
      [ChipEvent.poke (BitVec.ofNat 5 (c.toNat % 32)) b, ChipEvent.pokeDigi c b]
      else [ChipEvent.poke (BitVec.ofNat 5 (c.toNat % 32)) b] := by
  have hreg : c.setWidth 5 = BitVec.ofNat 5 (c.toNat % 32) := BitVec.eq_of_toNat_eq (by simp)
  rw [chipWrite, hreg]
  rfl

/-- The write path writes one byte as the statements read it (R53). -/
theorem memWrite_wroteByte {s : State} (hs : MemoryInv s) (ea : Word) (b : Byte) :
    WroteByte ea b s (memWrite ea b s) := by
  refine ⟨fun c hc => by simp [memRead_memWrite hs, hc], ?_⟩
  rcases memWrite_cases ea b s with ⟨hw, -, hchip⟩ | ⟨hw, -, hchip⟩
  · refine .inr ⟨(inChipWindow_iff_masked ea).1 hw, by simp [memRead_memWrite hs, hw], ?_⟩
    rw [hchip, chipWrite_eq]
  · refine .inl ⟨fun h => ?_, by simp [memRead_memWrite hs, hw], hchip⟩
    rw [(inChipWindow_iff_masked ea).2 h] at hw
    cases hw

/-- Writes outside the window leave its bytes as they are. -/
theorem PlainWrites.read_window {m m' : Memory} (h : PlainWrites m m') (hm : Memory.wf m = true) {c : Word}
    (hc : inChipWindow c = true) : Memory.read m' c.toNat = Memory.read m c.toNat := by
  induction h with
  | refl => rfl
  | tail hsteps hw ih =>
    obtain ⟨d, b, hd, rfl⟩ := hw
    have hne : c ≠ d := by
      rintro rfl
      rw [hc] at hd
      cases hd
    rw [Memory.read_write (PlainWrites.wf hsteps hm), if_neg (mt BitVec.eq_of_toNat_eq hne), ih]

/-! ### A store, and the fetch after it -/

/-- The store of a register, R133 to R135, is `PutOperand` of its value. -/
theorem storeEffect_eq_putOperand {mn : Mnemonic} {s : State} {v : Byte} (h : storedRegister mn s = some v)
    (m : MemMode) : storeEffect mn m s = putOperand m m.storeCycles v s := by
  cases mn with
  | STA | STX | STY => cases h; rfl
  | _ => cases h

/-- Reading one byte after `PutOperand`, on a memory in canonical form. -/
theorem memRead_putOperand {s : State} (hs : MemoryInv s) (m : MemMode) (base : Nat) (v : Byte) (d : Word) :
    memRead (putOperand m base v s) d =
      if inChipWindow (effAddr m s).addr = false ∧ d = (effAddr m s).addr then v else memRead s d :=
  memRead_memWrite (s := s.advance m.length base) hs (effAddr m s).addr v d

/-- Where one state reads like another but for the byte at its own `PC`, its fetch decodes that byte and the operand
bytes of the other. -/
theorem fetch_of_read_ne_pc {s t : State} (h : ∀ c, c ≠ t.pc → memRead t c = memRead s c) :
    fetch t = decodeInstr (memRead t t.pc) (memRead s (t.pc + 1)) (memRead s (t.pc + 2)) := by
  rw [fetch, h (t.pc + 1) (by bv_omega), h (t.pc + 2) (by bv_omega)]

end Sys2Proof.Machine

namespace Sys2Proof.Proofs.MemoryFamily
open Sys2Proof.Machine

/-- Settles O11: both branches of the write path, and the block of addresses the mask names. -/
theorem writePath : Obligations.WritePath := by
  unfold Obligations.WritePath
  intro s ea b hs
  exact ⟨memWrite_wroteByte hs ea b, maskedToWindow_iff ea, memWrite_sameRest ea b s⟩

/-- Settles O14: a step that accepts no `load` writes plain bytes only, and none of them is in the window. -/
theorem chipWindowBytesAreConstant : Obligations.ChipWindowBytesAreConstant := by
  unfold Obligations.ChipWindowBytesAreConstant
  intro s t ea hs hstep hnoLoad hlo hhi
  rcases step_plainWrites hstep with hw | ⟨hload, -⟩
  · exact hw.read_window hs ((inChipWindow_iff ea).2 ⟨hlo, hhi⟩)
  · rw [hnoLoad] at hload
    cases hload

/-- Settles O15: the store changes the opcode byte at `PC` and no other, so the fetch reads the byte stored and the
operand bytes of before. -/
theorem storeIsSeenByNextFetch : Obligations.StoreIsSeenByNextFetch := by
  unfold Obligations.StoreIsSeenByNextFetch
  intro i mn m s t v hs hform hv hexec hpc hplain
  have ht : t = putOperand m m.storeCycles v s := by
    rw [exec_next_effect hexec, hform, formEffect, storeEffect_eq_putOperand hv]
  have hread (c : Word) : memRead t c = if c = t.pc then v else memRead s c := by
    simpa only [← ht, hpc, hplain, true_and] using memRead_putOperand hs m m.storeCycles v c
  rw [fetch_of_read_ne_pc fun c hc => (hread c).trans (if_neg hc), hread, if_pos rfl]

end Sys2Proof.Proofs.MemoryFamily
end

section
/-! The obligations of spec/30_encoding.md about words: decoding and encoding agree, cell by cell of the grid of R86, and
every opcode byte decodes. -/

namespace Sys2Proof

/-! ### What a cell of the grid makes of the bytes after its opcode byte -/

/-- The cell of the opcode byte `op`, followed by the operand bytes `bs` its format asks for, stands for `i` (R81). -/
inductive TableEntry.Spells (op : Byte) : TableEntry → List Byte → Instr → Prop
  | f1 (i : Instr) : Spells op (.f1 i) [] i
  | f2 (f : Byte → Instr) (b : Byte) : Spells op (.f2 f) [b] (f b)
  | f3 (f : Word → Instr) (w : Word) : Spells op (.f3 f) (operand16 w) (f w)
  | undoc : Spells op .undoc [] (.ill op)

theorem operand16_joinBytes (hi lo : Byte) : operand16 (joinBytes hi lo) = [lo, hi] := by
  simp [operand16]

/-- What a cell spells is what `decode` reads, whatever follows. -/
theorem TableEntry.Spells.decodes {op : Byte} {bs : List Byte} {i : Instr} (h : (tableEntry op).Spells op bs i)
    (rest : List Byte) : decode (op :: (bs ++ rest)) = .ok (i, rest) := by
  generalize hcell : tableEntry op = cell at h
  cases h with
  | f1 => exact decode_f1 hcell rest
  | f2 f b => exact decode_f2 hcell b rest
  | f3 f w => exact decode_f3 hcell w rest
  | undoc => exact decode_undoc hcell rest

/-- What `decode` reads begins with an opcode byte and what its cell spells. -/
theorem decode_spells {bytes rest : List Byte} {i : Instr} (h : decode bytes = .ok (i, rest)) :
    ∃ op bs, bytes = op :: (bs ++ rest) ∧ (tableEntry op).Spells op bs i := by
  cases bytes with
  | nil => cases h
  | cons op tail =>
    refine ⟨op, ?_⟩
    generalize hcell : tableEntry op = cell
    cases cell with
    | f1 =>
      cases (decode_f1 hcell tail).symm.trans h
      exact ⟨[], rfl, .f1 _⟩
    | undoc =>
      cases (decode_undoc hcell tail).symm.trans h
      exact ⟨[], rfl, .undoc⟩
    | f2 f =>
      simp only [decode, hcell] at h
      cases tail with
      | nil => cases h
      | cons b tail =>
        cases h
        exact ⟨[b], rfl, .f2 f b⟩
    | f3 f =>
      simp only [decode, hcell] at h
      match tail, h with
      | b1 :: b2 :: _, rfl => exact ⟨_, by rw [operand16_joinBytes]; rfl, .f3 f (joinBytes b2 b1)⟩

/-! ### The grid and the encoder agree -/

/-- Every well-formed instruction is spelt by the cell of its own opcode byte (R85, R87). -/
theorem encode_spells {i : Instr} (h : i.wf = true) :
    ∃ op bs, encode i = op :: bs ∧ (tableEntry op).Spells op bs i := by
  cases i with
  | tax | tay | txa | tya | tsx | txs | pha | php | pla | plp | aslAcc | lsrAcc | rolAcc | rorAcc | inx | iny | dex | dey
  | rts | rti | brk | clc | sec | cli | sei | cld | sed | clv | nop => exact ⟨_, _, rfl, .f1 _⟩
  | ldaAbs w | ldaAbx w | ldaAby w | ldxAbs w | ldxAby w | ldyAbs w | ldyAbx w | staAbs w | staAbx w | staAby w
  | stxAbs w | styAbs w | adcAbs w | adcAbx w | adcAby w | sbcAbs w | sbcAbx w | sbcAby w | cmpAbs w | cmpAbx w
  | cmpAby w | cpxAbs w | cpyAbs w | andAbs w | andAbx w | andAby w | oraAbs w | oraAbx w | oraAby w | eorAbs w
  | eorAbx w | eorAby w | bitAbs w | aslAbs w | aslAbx w | lsrAbs w | lsrAbx w | rolAbs w | rolAbx w | rorAbs w
  | rorAbx w | incAbs w | incAbx w | decAbs w | decAbx w | jmpAbs w | jmpInd w | jsr w => exact ⟨_, _, rfl, .f3 _ w⟩
  | ill op => exact ⟨op, [], rfl, (tableEntry_undoc_iff op).2 h ▸ .undoc⟩
  | _ b => exact ⟨_, _, rfl, .f2 _ b⟩

/-- Whatever the cell of an opcode byte spells is well formed and is encoded as it was spelt: the 256 cells of R86, each
with every operand. -/
theorem TableEntry.Spells.wf_encode {op : Byte} {bs : List Byte} {i : Instr} (h : (tableEntry op).Spells op bs i) :
    i.wf = true ∧ encode i = op :: bs := by
  obtain ⟨n, hn⟩ := op
  interval_cases n <;> cases h <;> exact ⟨rfl, rfl⟩

/-- A byte sequence that decodes is the bytes of a well-formed instruction, followed by the rest (R88). -/
theorem wf_encode_of_decode {bytes rest : List Byte} {i : Instr} (h : decode bytes = .ok (i, rest)) :
    i.wf = true ∧ encode i ++ rest = bytes := by
  obtain ⟨op, bs, rfl, hspells⟩ := decode_spells h
  obtain ⟨hwf, henc⟩ := hspells.wf_encode
  exact ⟨hwf, by rw [henc, List.cons_append]⟩

end Sys2Proof

namespace Sys2Proof.Proofs.EncodingFamily

/-- Settles O2: an instruction is spelt by its cell, and what a cell spells is decoded. -/
theorem decodeOfEncode : Obligations.DecodeOfEncode := by
  unfold Obligations.DecodeOfEncode
  intro i rest hwf
  obtain ⟨op, bs, henc, hspells⟩ := encode_spells hwf
  exact ⟨by rw [henc, List.cons_append, hspells.decodes], encode_length i⟩

/-- Settles O3: what is decoded was spelt by the cell of its first byte. -/
theorem encodeOfDecode : Obligations.EncodeOfDecode := by
  unfold Obligations.EncodeOfDecode
  exact fun _ _ _ h => wf_encode_of_decode h

/-- Settles O1: each word is evaluated. -/
theorem writtenWordsDecode : Obligations.WrittenWordsDecode := by
  unfold Obligations.WrittenWordsDecode
  exact ⟨rfl, rfl, rfl, rfl, rfl, rfl, rfl, rfl, rfl, rfl, rfl, rfl, rfl, rfl, rfl, rfl, rfl, rfl⟩

end Sys2Proof.Proofs.EncodingFamily
end

section
/-! How many opcode bytes are undocumented, and that those and no others decode to `ILL` (R83). -/

namespace Sys2Proof

/-! ### Counting the undocumented bytes -/

theorem isUndocumented_iff_mem (op : Byte) : isUndocumented op = true ↔ op ∈ undocumentedOpcodes :=
  List.contains_iff_mem

/-- R87 lists no byte twice. -/
theorem undocumentedOpcodes_nodup : undocumentedOpcodes.Nodup := by decide

/-- The byte values that are undocumented are those of the list of R87. -/
theorem filter_isUndocumented_perm :
    ((List.range 256).filter fun n => isUndocumented (BitVec.ofNat 8 n)).Perm
      (undocumentedOpcodes.map BitVec.toNat) := by
  refine (List.perm_ext_iff_of_nodup (List.nodup_range.filter _)
    (undocumentedOpcodes_nodup.map BitVec.toNat_injective)).2 fun n => ?_
  simp only [List.mem_filter, List.mem_range, List.mem_map, isUndocumented_iff_mem]
  constructor
  · rintro ⟨hn, hmem⟩
    exact ⟨_, hmem, by simp [Nat.mod_eq_of_lt hn]⟩
  · rintro ⟨op, hmem, rfl⟩
    exact ⟨op.isLt, by simpa using hmem⟩

theorem count_undocumented : ((List.range 256).filter fun n => isUndocumented (BitVec.ofNat 8 n)).length = 105 :=
  filter_isUndocumented_perm.length_eq

/-- The other byte values are the documented ones. -/
theorem count_documented : ((List.range 256).filter fun n => !isUndocumented (BitVec.ofNat 8 n)).length = 151 := by
  have hsplit := List.length_eq_length_filter_add (l := List.range 256) fun n => isUndocumented (BitVec.ofNat 8 n)
  rw [List.length_range, count_undocumented] at hsplit
  omega

/-! ### What decodes to `ILL` -/

theorem eq_ill_of_mnemonic {i : Instr} (h : i.mnemonic = .ILL) : ∃ op, i = .ill op := by
  cases i with
  | ill op => exact ⟨op, rfl⟩
  | _ => cases h

/-- The undocumented bytes, and no others, decode to `ILL` (R87). -/
theorem mnemonic_decode_eq_ILL_iff {op : Byte} {tail rest : List Byte} {i : Instr}
    (h : decode (op :: tail) = .ok (i, rest)) : i.mnemonic = .ILL ↔ isUndocumented op = true := by
  constructor
  · intro hill
    obtain ⟨op', rfl⟩ := eq_ill_of_mnemonic hill
    obtain ⟨hwf, henc⟩ := wf_encode_of_decode h
    cases henc
    exact hwf
  · intro hop
    cases (decode_undoc ((tableEntry_undoc_iff op).2 hop) tail).symm.trans h
    rfl

end Sys2Proof

namespace Sys2Proof.Proofs.EncodingFamily
open Sys2Proof.Machine

/-- Settles O4: three bytes always decode, to `ILL` when the first is in the list of R87, and every instruction has a
next state. -/
theorem everyOpcodeByteDecodes : Obligations.EveryOpcodeByteDecodes := by
  unfold Obligations.EveryOpcodeByteDecodes
  refine ⟨count_documented, count_undocumented, fun op b1 b2 rest => ?_⟩
  obtain ⟨rest', hdecode⟩ := decode_three op b1 b2 rest
  have hill := mnemonic_decode_eq_ILL_iff hdecode
  exact ⟨_, rest', hdecode, fun hdoc => by simp [hill, hdoc], hill.2, fun s => ⟨_, exec_eq_effect _ s⟩⟩

end Sys2Proof.Proofs.EncodingFamily
end

section
/-! The cycles of an instruction: the count printed in R85 for its opcode byte, plus the penalties of R116 and R200. -/

namespace Sys2Proof

/-- The count of R85 for the mnemonics of mode `imp`. -/
def impliedCycles : Mnemonic → Nat
  | .PHA => 3
  | .PHP => 3
  | .PLA => 4
  | .PLP => 4
  | .RTS => 6
  | .RTI => 6
  | .BRK => 7
  | _ => 2

/-- The count of R85 without penalties, by class and mode. -/
def Form.baseCycles : Form → Nat
  | .implied mn => impliedCycles mn
  | .read _ m => m.cycles
  | .store _ m => m.storeCycles
  | .rmw _ m => m.cycles
  | .branch _ _ => 2
  | .absTarget .JSR _ => 6
  | .absTarget _ _ => 3
  | .indTarget _ _ => 5

/-- The count printed for the opcode byte of a documented instruction is that of its class and mode (R117). -/
theorem baseCycles_of_encode {i : Instr} {op : Byte} {bs : List Byte} (h : encode i = op :: bs)
    (hdoc : i.form ≠ .implied .ILL) : Claims.baseCycles.getD op.toNat 0 = i.form.baseCycles := by
  cases i with
  | ill op => exact absurd rfl hdoc
  | _ => cases h; rfl

namespace Machine
open Sys2Proof.Claims

/-! ### The charge of each class -/

section
variable {mn : Mnemonic} (s : State)

theorem readEffect_cyc {m : ReadMode} (h : (Form.read mn m).inTable = true) :
    (readEffect mn m s).cyc = m.cycles + penalty m s := by
  cases mn with
  | LDA | LDX | LDY | ADC | SBC | CMP | CPX | CPY | AND | ORA | EOR | BIT => rfl
  | _ => cases h

theorem storeEffect_cyc {m : MemMode} (h : (Form.store mn m).inTable = true) :
    (storeEffect mn m s).cyc = m.storeCycles := by
  cases mn with
  | STA | STX | STY => exact putOperand_cyc ..
  | _ => cases h

theorem rmwEffect_cyc {m : RmwMode} (h : (Form.rmw mn m).inTable = true) : (rmwEffect mn m s).cyc = m.cycles := by
  cases mn with
  | ASL | LSR | ROL | ROR | INC | DEC => exact rmw_cyc ..
  | _ => cases h

theorem impliedEffect_cyc (h : (Form.implied mn).inTable = true) (hdoc : mn ≠ .ILL) :
    (impliedEffect mn s).cyc = impliedCycles mn := by
  cases mn with
  | ILL => exact absurd rfl hdoc
  | PHA | PHP => exact push_cyc ..
  | TAX | TAY | TXA | TYA | TSX | TXS | PLA | PLP | INX | INY | DEX | DEY | RTS | RTI | BRK | CLC | SEC | CLI | SEI | CLD
  | SED | CLV | NOP => rfl
  | _ => cases h

theorem absTarget_cyc {t : Word} (h : (Form.absTarget mn t).inTable = true) :
    (formEffect (.absTarget mn t) s).cyc = (Form.absTarget mn t).baseCycles := by
  cases mn with
  | JSR => exact jsrOp_cyc t s
  | JMP => rfl
  | _ => cases h

theorem indTarget_cyc {p : Word} (h : (Form.indTarget mn p).inTable = true) :
    (formEffect (.indTarget mn p) s).cyc = (Form.indTarget mn p).baseCycles := by
  cases mn with
  | JMP => rfl
  | _ => cases h

/-- Each mnemonic of mode `rel` has a condition. -/
theorem branchTaken_of_inTable {d : Byte} (h : (Form.branch mn d).inTable = true) (p : Byte) :
    ∃ taken, branchTaken mn p = some taken := by
  cases mn with
  | BCC | BCS | BEQ | BNE | BMI | BPL | BVC | BVS => exact ⟨_, rfl⟩
  | _ => cases h

/-- Two addresses on one page (R14). -/
theorem highByte_eq_iff (a b : Word) : highByte a = highByte b ↔ a.toNat / 256 = b.toNat / 256 := by
  rw [← BitVec.toNat_inj, highByte_toNat, highByte_toNat]

/-- The charge of a branch, by where it leaves `PC` (R200). -/
theorem branch_cyc (taken : Bool) (d : Byte) :
    (branch taken d s).cyc = 2 + if taken = true then
      if (branch taken d s).pc.toNat / 256 = (s.pc.toNat + 2) % 65536 / 256 then 1 else 2 else 0 := by
  cases taken with
  | false => rfl
  | true =>
    have hnext : (s.pc + 2).toNat = (s.pc.toNat + 2) % 65536 := BitVec.toNat_add ..
    have hcyc : (branch true d s).cyc = if highByte (branch true d s).pc != highByte (s.pc + 2) then 4 else 3 := rfl
    rw [hcyc, if_pos rfl]
    simp only [bne_iff_ne, ite_not, highByte_eq_iff, hnext]
    split <;> rfl

end

end Machine

end Sys2Proof

namespace Sys2Proof.Proofs.EncodingFamily
open Sys2Proof.Machine Sys2Proof.Claims

/-- Settles O33, by the class of the instruction. -/
theorem cyclesFollowTheOpcodeTable : Obligations.CyclesFollowTheOpcodeTable := by
  unfold Obligations.CyclesFollowTheOpcodeTable
  intro i s t op bs henc hexec
  have hbase := baseCycles_of_encode henc
  have hin := i.form_inTable
  rw [exec_next_effect hexec]
  generalize i.form = f at hbase hin
  split
  · next mn m =>
    rw [hbase nofun]
    exact (readEffect_cyc s hin).trans (by cases m <;> rfl)
  · next mn d =>
    obtain ⟨taken, htaken⟩ := branchTaken_of_inTable hin s.p
    rw [hbase nofun, htaken, formEffect, branchEffect_eq htaken]
    simp only [Option.some.injEq]
    exact branch_cyc s taken d
  · rfl
  · next hread hbranch hdoc =>
    rw [hbase hdoc]
    cases f with
    | implied mn => exact impliedEffect_cyc s hin fun h => hdoc (h ▸ rfl)
    | read mn m => exact absurd rfl (hread mn m)
    | store mn m => exact storeEffect_cyc s hin
    | rmw mn m => exact rmwEffect_cyc s hin
    | branch mn d => exact absurd rfl (hbranch mn d)
    | absTarget mn t => exact absTarget_cyc s hin
    | indTarget mn p => exact indTarget_cyc s hin

end Sys2Proof.Proofs.EncodingFamily
end

section
/-! The effective address of each mode in integers, and its page test (R105 to R112, R115). -/

namespace Sys2Proof.Machine

variable (s : State)

/-- A zero-page address is the number of its byte (R82). -/
@[simp] theorem zeroPage_toNat (z : Byte) : (zeroPage z).toNat = z.toNat :=
  BitVec.toNat_setWidth_of_le (by decide)

/-- A zero-page address, spelt by its number. -/
theorem zeroPage_eq_ofNat (z : Byte) : zeroPage z = BitVec.ofNat 16 z.toNat :=
  (BitVec.ofNat_toNat 16 z).symm

/-- A 16-bit read is little-endian: low byte plus 256 times high byte (R10, R56). -/
theorem memRead16_toNat (lo hi : Word) :
    (memRead16 s lo hi).toNat = (memRead s lo).toNat + 256 * (memRead s hi).toNat := by
  rw [memRead16, joinBytes_toNat, Nat.mul_comm, Nat.add_comm]

/-- The pointer at `z` takes its high byte from the next byte of page zero, modulo 256 (R111, R112). -/
theorem zeroPagePointer_toNat (z : Byte) :
    (zeroPagePointer z s).toNat = (memRead s (BitVec.ofNat 16 z.toNat)).toNat +
      256 * (memRead s (BitVec.ofNat 16 ((z.toNat + 1) % 256))).toNat := by
  have hnext : (z + 1).toNat = (z.toNat + 1) % 256 := BitVec.toNat_add ..
  rw [zeroPagePointer, memRead16_toNat, zeroPage_eq_ofNat, zeroPage_eq_ofNat, hnext]

/-- The low byte of the pointer at `z` is the byte at `z`. -/
@[simp] theorem lowByte_zeroPagePointer (z : Byte) :
    lowByte (zeroPagePointer z s) = memRead s (zeroPage z) :=
  lowByte_joinBytes ..

/-- Indexing adds modulo 65536 (R109, R110, R112). -/
theorem indexed_addr_toNat (base : Word) (index : Byte) :
    (indexed base index).addr.toNat = (base.toNat + index.toNat) % 65536 := by
  simp [indexed]

/-- An indexed address crosses a page when its low-byte addition carries (R115). -/
theorem indexed_crossed_iff (base : Word) (index : Byte) :
    (indexed base index).crossed = true ↔ 255 < (lowByte base).toNat + index.toNat := by
  rw [indexed_crossed, decide_eq_true_iff]

end Sys2Proof.Machine

namespace Sys2Proof.Proofs.AddressingModesFamily
open Sys2Proof.Machine

/-- Settles O29, mode by mode: an addition in page zero is one of bytes, an addition of an index is one of words, and
a pointer is a 16-bit read in page zero. -/
theorem effectiveAddresses : Obligations.EffectiveAddresses := by
  unfold Obligations.EffectiveAddresses
  intro s z w
  have hzx : (z + s.x).toNat = (z.toNat + s.x.toNat) % 256 := BitVec.toNat_add ..
  have hzy : (z + s.y).toNat = (z.toNat + s.y.toNat) % 256 := BitVec.toNat_add ..
  refine ⟨zeroPage_toNat z, (zeroPage_toNat _).trans hzx, (zeroPage_toNat _).trans hzy, rfl,
    indexed_addr_toNat w s.x, indexed_addr_toNat w s.y, ?izx, ?izy, rfl, fun _ => rfl⟩
  case izx =>
    have hptr := zeroPagePointer_toNat s (z + s.x)
    rwa [hzx, Nat.mod_add_mod] at hptr
  case izy =>
    have haddr := indexed_addr_toNat (zeroPagePointer z s) s.y
    rwa [zeroPagePointer_toNat] at haddr

/-- Settles O30: an indexed mode crosses when its low-byte addition carries, and the low byte of the base is that of the
operand or, in `izy`, the byte the pointer starts at; the other modes index within page zero or not at all. -/
theorem pageCrossing : Obligations.PageCrossing := by
  unfold Obligations.PageCrossing
  intro s z w
  have habs (index : Byte) : (indexed w index).crossed = true ↔ 255 < w.toNat % 256 + index.toNat := by
    rw [indexed_crossed_iff, lowByte_toNat]
  have hizy : (indexed (zeroPagePointer z s) s.y).crossed = true ↔
      255 < (memRead s (BitVec.ofNat 16 z.toNat)).toNat + s.y.toNat := by
    rw [indexed_crossed_iff, lowByte_zeroPagePointer, zeroPage_eq_ofNat]
  exact ⟨habs s.x, habs s.y, hizy, rfl, rfl, rfl, rfl, rfl⟩

end Sys2Proof.Proofs.AddressingModesFamily
end

section
/-! The obligations of spec/41_load_store_transfer.md, with `AND`, `ORA` and `EOR` of spec/44_logic_bit.md and the index
counts of spec/45_shift_incdec.md: the exact state each instruction leaves. -/

namespace Sys2Proof.Machine
open Sys2Proof.Claims

variable {i : Instr} {mn : Mnemonic} {v : Byte} {s : State}

/-- What an instruction of a known form does is the effect of that form. -/
theorem exec_of_form {f : Form} (h : i.form = f) (s : State) : exec i s = .next (formEffect f s) :=
  h ▸ exec_eq_effect i s

/-- The fetch and the charge of a read-class instruction: its length and its count with the penalty (R84, R117). -/
theorem readAdvance_of_form {m : ReadMode} (h : i.form = .read mn m) (s : State) :
    readAdvance m m.cycles s =
      { s with pc := s.pc + BitVec.ofNat 16 i.length, cyc := m.cycles + penalty m s } := by
  rw [Instr.length, h]
  rfl

/-- Each store-class mnemonic stores a register. -/
theorem storedRegister_of_inTable {m : MemMode} (h : (Form.store mn m).inTable = true) (s : State) :
    ∃ v, storedRegister mn s = some v := by
  cases mn with
  | STA | STX | STY => exact ⟨_, rfl⟩
  | _ => cases h

/-- A store instruction is `PutOperand` of the register of its mnemonic (R133 to R135). -/
theorem exec_store {m : MemMode} (h : i.form = .store mn m) (hv : storedRegister mn s = some v) :
    exec i s = .next (putOperand m m.storeCycles v s) := by
  rw [exec_of_form h, formEffect, storeEffect_eq_putOperand hv]

/-- `PutOperand` writes one byte at the effective address: neither a read nor the event history sees the fetch and the
charge before the write. -/
theorem putOperand_wroteByte (hs : MemoryInv s) (m : MemMode) (base : Nat) (v : Byte) :
    WroteByte (effAddr m s).addr v s (putOperand m base v s) :=
  memWrite_wroteByte (s := s.advance m.length base) hs (effAddr m s).addr v

/-- `PutOperand` changes `PC`, the cycles, `Mem` and the event history alone. -/
theorem putOperand_sameRest (m : MemMode) (base : Nat) (v : Byte) (s : State) :
    putOperand m base v s = { s with
      pc := s.pc + BitVec.ofNat 16 m.length, cyc := base
      mem := (putOperand m base v s).mem, chip := (putOperand m base v s).chip } :=
  memWrite_sameRest ..

end Sys2Proof.Machine

namespace Sys2Proof.Proofs.LoadStoreFamily
open Sys2Proof.Machine

/-- Settles O36: a store is `PutOperand` of a register, which is one write through the write path and an advance. -/
theorem stores : Obligations.Stores := by
  unfold Obligations.Stores
  intro i mn m s hs hform
  obtain ⟨v, hv⟩ := storedRegister_of_inTable (hform ▸ i.form_inTable) s
  have hlen : i.length = m.length := congrArg Form.length hform
  refine ⟨v, putOperand m m.storeCycles v s, hv, exec_store hform hv, putOperand_wroteByte hs .., ?_⟩
  rw [hlen]
  exact putOperand_sameRest ..

/-- Settles O35: each of the six is the advance of a read-class instruction, then a write of its register and of the
flags from the byte written. -/
theorem loadsAndLogic : Obligations.LoadsAndLogic := by
  unfold Obligations.LoadsAndLogic
  rintro i m s u v rfl hu
  have hadvance {mn : Mnemonic} (h : i.form = .read mn m) : u = readAdvance m m.cycles s :=
    hu.trans (readAdvance_of_form h s).symm
  refine ⟨fun h => ?lda, fun h => ?ldx, fun h => ?ldy, fun h => ?and, fun h => ?ora, fun h => ?eor⟩
  all_goals
    rw [exec_of_form h, hadvance h]
    rfl

/-- Settles O37: each of the ten is an advance of one byte and two cycles, then a write of its register and, but for
`TXS`, of N and Z. -/
theorem registerInstructions : Obligations.RegisterInstructions := by
  unfold Obligations.RegisterInstructions
  exact fun _ => ⟨rfl, rfl, rfl, rfl, rfl, rfl, rfl, rfl, rfl, rfl⟩

end Sys2Proof.Proofs.LoadStoreFamily
end

section
/-! The obligations of spec/42_stack.md: the clamped stack in integers, and what a pop gives back after a push. -/

namespace Sys2Proof.Machine

/-! ### The stack pointer and the address it names, in integers -/

section
variable (sp : Byte)

/-- The stack page starts at 256 (R21). -/
theorem stackAddr_toNat : (stackAddr sp).toNat = 256 + sp.toNat := by
  have hbound := sp.isLt
  rw [stackAddr, BitVec.toNat_add, BitVec.toNat_setWidth_of_le (by decide)]
  exact Nat.mod_eq_of_lt (show 256 + sp.toNat < 65536 by omega)

theorem spDown_eq_ofNat : spDown sp = BitVec.ofNat 8 (sp.toNat - 1) := by
  unfold spDown
  split <;> bv_omega

theorem spUp_toNat : (spUp sp).toNat = min (sp.toNat + 1) 255 := by
  unfold spUp
  split <;> bv_omega

theorem spUp_eq_ofNat : spUp sp = BitVec.ofNat 8 (min (sp.toNat + 1) 255) := by
  rw [← spUp_toNat, BitVec.ofNat_toNat, BitVec.setWidth_eq]

theorem stackAddr_spUp : stackAddr (spUp sp) = BitVec.ofNat 16 (256 + min (sp.toNat + 1) 255) := by
  rw [← spUp_toNat, ← stackAddr_toNat, BitVec.ofNat_toNat, BitVec.setWidth_eq]

/-- `Push` never leaves the pointer at the top of the page. -/
theorem spDown_ne_255 : spDown sp ≠ 255 := by
  unfold spDown
  split <;> bv_omega

variable {sp}

theorem spDown_ne_zero (h : 2 ≤ sp.toNat) : spDown sp ≠ 0 := by
  unfold spDown
  split <;> bv_omega

/-- Away from the clamp at 0 the two moves cancel. -/
theorem spUp_spDown (h : sp ≠ 0) : spUp (spDown sp) = sp := by
  rw [spDown, if_neg h, spUp, if_neg (by bv_omega), BitVec.sub_add_cancel]

/-- Away from the clamp at 255 the pointer moves. -/
theorem spUp_ne_self (h : sp ≠ 255) : spUp sp ≠ sp := by
  rw [spUp, if_neg h]
  bv_omega

end

/-! ### One push, one pop -/

section
variable {s : State}

/-- A push changes `Mem` and `S` alone (R150). -/
theorem push_eq (v : Byte) (s : State) :
    push v s = { s with mem := (push v s).mem, sp := BitVec.ofNat 8 (s.sp.toNat - 1) } := by
  rw [← spDown_eq_ofNat, push, memWrite_plain (inChipWindow_stackAddr s.sp)]
  rfl

/-- The one byte a push writes, its address in integers (R150). -/
theorem memRead_push_toNat (hs : MemoryInv s) (v : Byte) (c : Word) :
    memRead (push v s) c = if c.toNat = 256 + s.sp.toNat then v else memRead s c := by
  simp only [memRead_push hs, ← BitVec.toNat_inj, stackAddr_toNat]

theorem popValue_eq (s : State) :
    popValue s = memRead s (BitVec.ofNat 16 (256 + min (s.sp.toNat + 1) 255)) := by
  rw [popValue, stackAddr_spUp]

/-! ### A pop after a push -/

theorem pop_push_sp (h : s.sp ≠ 0) (v : Byte) : (pop (push v s)).sp = s.sp := by
  rw [pop_sp, push_sp, spUp_spDown h]

theorem popValue_push (hs : MemoryInv s) (h : s.sp ≠ 0) (v : Byte) : popValue (push v s) = v := by
  rw [popValue, push_sp, spUp_spDown h, memRead_push hs, if_pos rfl]

/-- At the clamp the push writes at `0x0100` and leaves `S` there, and the pop reads the address above (R151). -/
theorem popValue_push_of_sp_zero (hs : MemoryInv s) (h : s.sp = 0) (v : Byte) :
    popValue (push v s) = memRead s 0x0101 := by
  rw [popValue, push_sp, memRead_push hs, h]
  rfl

/-- Below a byte pushed and popped the stack is as it was: the next pop gives what it would have given before. -/
theorem popValue_pop_push (hs : MemoryInv s) (h0 : s.sp ≠ 0) (h255 : s.sp ≠ 255) (v : Byte) :
    popValue (pop (push v s)) = popValue s := by
  rw [popValue, pop_push_sp h0, memRead_pop, memRead_push hs, if_neg (mt stackAddr_inj.1 (spUp_ne_self h255)), popValue]

/-! ### A return after a call -/

/-- The two bytes of an address, high byte pushed first as `JSR` does (R211). -/
def pushAddr (r : Word) (s : State) : State := push (lowByte r) (push (highByte r) s)

theorem jsrOp_eq (t : Word) (s : State) : jsrOp t s = (pushAddr (s.pc + 2) (s.advance 3 6)).setPc t := rfl

theorem popReturn_pushAddr (hs : MemoryInv s) (h : 2 ≤ s.sp.toNat) (r : Word) :
    popReturn (pushAddr r s) = r + 1 := by
  have h0 : s.sp ≠ 0 := by bv_omega
  have hs' : MemoryInv (push (highByte r) s) := push_memoryInv hs _
  have h0' : (push (highByte r) s).sp ≠ 0 := push_sp s _ ▸ spDown_ne_zero h
  have h255' : (push (highByte r) s).sp ≠ 255 := push_sp s _ ▸ spDown_ne_255 s.sp
  rw [popReturn, pushAddr, popValue_push hs' h0', popValue_pop_push hs' h0' h255', popValue_push hs h0,
    joinBytes_high_low]

theorem spUp_spUp_pushAddr_sp (h : 2 ≤ s.sp.toNat) (r : Word) : spUp (spUp (pushAddr r s).sp) = s.sp := by
  have h0 : s.sp ≠ 0 := by bv_omega
  rw [pushAddr, push_sp, push_sp, spUp_spDown (spDown_ne_zero h), spUp_spDown h0]

theorem rtsOp_pc (s : State) : (rtsOp s).pc = popReturn s := rfl

theorem rtsOp_sp (s : State) : (rtsOp s).sp = spUp (spUp s.sp) := rfl

/-- A return does not look at `PC`. -/
theorem popReturn_setPc (pc : Word) (s : State) : popReturn (s.setPc pc) = popReturn s := rfl

/-- `RTS` after `JSR` (R211, R212). -/
theorem rtsOp_jsrOp (hs : MemoryInv s) (h : 2 ≤ s.sp.toNat) (t pc : Word) :
    (rtsOp ((jsrOp t s).setPc pc)).pc = s.pc + 3 ∧ (rtsOp ((jsrOp t s).setPc pc)).sp = s.sp := by
  have hs' : MemoryInv (s.advance 3 6) := hs
  have h' : 2 ≤ (s.advance 3 6).sp.toNat := h
  constructor
  · rw [rtsOp_pc, popReturn_setPc, jsrOp_eq, popReturn_setPc, popReturn_pushAddr hs' h', BitVec.add_assoc]
    rfl
  · rw [rtsOp_sp, State.setPc_sp, jsrOp_eq, State.setPc_sp, spUp_spUp_pushAddr_sp h', State.advance_sp]

end

end Sys2Proof.Machine

namespace Sys2Proof.Proofs.StackFamily
open Sys2Proof.Machine

/-- Settles O23: the stack page is outside the chip window, so a push is one plain write and a move of `S`. -/
theorem pushWritesThenMoves : Obligations.PushWritesThenMoves := by
  unfold Obligations.PushWritesThenMoves
  exact fun s v hs => ⟨memRead_push_toNat hs v, push_eq v s⟩

/-- Settles O24: away from the clamp at 0 the pop moves `S` back to where the push wrote; at the clamp it moves to the
address above. -/
theorem popMovesThenReads : Obligations.PopMovesThenReads := by
  unfold Obligations.PopMovesThenReads
  intro s v hs
  refine ⟨popValue_eq s, congrArg s.setSp (spUp_eq_ofNat s.sp),
    fun h => ⟨popValue_push hs h v, pop_push_sp h v⟩, fun h => ⟨popValue_push_of_sp_zero hs h v, ?_⟩⟩
  rw [pop_sp, push_sp, h]
  rfl

/-- Settles O26: each is a push after an advance of one byte and three cycles. -/
theorem stackPushInstructions : Obligations.StackPushInstructions := by
  unfold Obligations.StackPushInstructions
  intro s hs
  have hpush (v : Byte) := memRead_push_toNat (s := s.advance 1 3) hs v
  exact ⟨⟨phaOp s, rfl, hpush s.a, push_eq ..⟩, ⟨phpOp s, rfl, hpush s.p, push_eq ..⟩⟩

/-- Settles O27: each is a pop after an advance of one byte and four cycles, then a write of its register. -/
theorem stackPullInstructions : Obligations.StackPullInstructions := by
  unfold Obligations.StackPullInstructions
  rintro s v rfl
  rw [← popValue_eq, ← spUp_eq_ofNat]
  exact ⟨rfl, rfl⟩

/-- Settles O25: the pull reads the byte pushed, and a return joins the two bytes of the address pushed; neither looks at
`A`, `P` or `PC`. -/
theorem pullsUndoPushes : Obligations.PullsUndoPushes := by
  unfold Obligations.PullsUndoPushes
  intro s q target pc hs h0
  have hvalue (v : Byte) : popValue (push v (s.advance 1 3)) = v := popValue_push (s := s.advance 1 3) hs h0 v
  have hsp (v : Byte) : (pop (push v (s.advance 1 3))).sp = s.sp := pop_push_sp (s := s.advance 1 3) h0 v
  refine ⟨⟨phaOp s, _, rfl, rfl, hvalue s.a, hsp s.a⟩, ⟨phpOp s, _, rfl, rfl, hvalue s.p, hsp s.p⟩, fun h2 => ?_⟩
  obtain ⟨hpc, hret⟩ := rtsOp_jsrOp hs h2 target pc
  exact ⟨jsrOp target s, _, _, rfl, rfl, hpc, hret, rfl, hpc, hret⟩

end Sys2Proof.Proofs.StackFamily
end

section
/-! The obligations of spec/43_arithmetic_compare.md: the flags of the shared addition and of the shared comparison in
integers, and the state the instructions that use them leave. -/

namespace Sys2Proof.Machine
open Sys2Proof.Claims

/-! ### Bits under a mask -/

/-- Two words agree under a mask when they agree on its bits. -/
theorem and_eq_and_of_getLsbD {n : Nat} {mask x y : BitVec n}
    (h : ∀ k, mask.getLsbD k = true → x.getLsbD k = y.getLsbD k) : x &&& mask = y &&& mask := by
  refine BitVec.eq_of_getLsbD_eq fun k _ => ?_
  rw [BitVec.getLsbD_and, BitVec.getLsbD_and]
  cases hk : mask.getLsbD k with
  | false => rw [Bool.and_false, Bool.and_false]
  | true => rw [h k hk]

/-- A bit of a mask is none of those the mask leaves out. -/
theorem ne_of_mask {n k b : Nat} {mask : BitVec n} (hk : mask.getLsbD k = true) (hb : mask.getLsbD b = false) :
    k ≠ b :=
  ne_of_apply_ne mask.getLsbD (by rw [hk, hb]; decide)

/-! ### The addition of `ADC` and `SBC` -/

section
variable (a m p : Byte)

/-- The result is the sum modulo 256 (R160). -/
theorem addWithCarry_fst_toNat :
    (addWithCarry a m p).1.toNat = (a.toNat + m.toNat + (p.getLsbD 0).toNat) % 256 := by
  rw [addWithCarry_fst, BitVec.toNat_ofNat, flag_eq_bit]
  rfl

theorem addWithCarry_c :
    (addWithCarry a m p).2.getLsbD 0 = decide (256 ≤ a.toNat + m.toNat + (p.getLsbD 0).toNat) := by
  rw [addWithCarry_bit, flag_eq_bit]
  rfl

theorem addWithCarry_z : (addWithCarry a m p).2.getLsbD 1 = decide ((addWithCarry a m p).1 = 0) :=
  addWithCarry_bit a m p 1

theorem addWithCarry_n : (addWithCarry a m p).2.getLsbD 7 = decide (128 ≤ (addWithCarry a m p).1.toNat) := by
  have hn : (addWithCarry a m p).2.getLsbD 7 = (addWithCarry a m p).1.msb := addWithCarry_bit a m p 7
  rw [hn, BitVec.msb_eq_decide]

/-- V is C xor N as just written, not the signed overflow (R160). -/
theorem addWithCarry_v :
    (addWithCarry a m p).2.getLsbD 6 = ((addWithCarry a m p).2.getLsbD 0 != (addWithCarry a m p).2.getLsbD 7) := by
  rw [addWithCarry_bit a m p 0, addWithCarry_bit a m p 7]
  exact addWithCarry_bit a m p 6

/-- D, I and bits 4 and 5 are kept (R25). -/
theorem addWithCarry_and_mask : (addWithCarry a m p).2 &&& 0x3C = p &&& 0x3C :=
  and_eq_and_of_getLsbD fun _ hk =>
    addWithCarry_keeps (ne_of_mask hk rfl) (ne_of_mask hk rfl) (ne_of_mask hk rfl) (ne_of_mask hk rfl) a m p

/-- The complement of a byte, as `SBC` takes it (R161). -/
theorem xor_255_toNat : (m ^^^ 0xFF).toNat = 255 - m.toNat := by
  rw [show (0xFF : Byte) = BitVec.allOnes 8 from rfl, BitVec.xor_allOnes, BitVec.toNat_not]

/-- The sum `SBC` forms is the difference with borrow, plus 256. -/
theorem add_complement_eq_sub_borrow :
    ((a.toNat + (m ^^^ 0xFF).toNat + (p.getLsbD 0).toNat : Nat) : Int) =
      (a.toNat - m.toNat - (1 - (p.getLsbD 0).toNat) : Int) + 256 := by
  have hm := m.isLt
  rw [xor_255_toNat]
  omega

end

/-! ### The comparison of `CMP`, `CPX` and `CPY` -/

section
variable (reg m p : Byte)

theorem compareFlags_c : (compareFlags reg m p).getLsbD 0 = decide (m.toNat ≤ reg.toNat) :=
  compareFlags_bit reg m p 0

theorem compareFlags_z : (compareFlags reg m p).getLsbD 1 = decide (reg = m) := by
  have hz : (compareFlags reg m p).getLsbD 1 = decide (reg - m = 0) :=
    (compareFlags_bit reg m p 1).trans (setNZ_bit _ p 1)
  rw [hz, decide_eq_decide, sub_eq_zero]

theorem compareFlags_n :
    (compareFlags reg m p).getLsbD 7 = decide (128 ≤ (reg.toNat + 256 - m.toNat) % 256) := by
  have hn : (compareFlags reg m p).getLsbD 7 = (reg - m).msb :=
    (compareFlags_bit reg m p 7).trans (setNZ_bit _ p 7)
  have hsub : (reg - m).toNat = (reg.toNat + 256 - m.toNat) % 256 := by
    have hm := m.isLt
    rw [BitVec.toNat_sub]
    omega
  rw [hn, BitVec.msb_eq_decide, hsub]

/-- V, D, I and bits 4 and 5 are kept (R25). -/
theorem compareFlags_and_mask : compareFlags reg m p &&& 0x7C = p &&& 0x7C :=
  and_eq_and_of_getLsbD fun _ hk =>
    compareFlags_keeps (ne_of_mask hk rfl) (ne_of_mask hk rfl) (ne_of_mask hk rfl) reg m p

end

/-! ### The instructions -/

section
variable {i : Instr} {mn : Mnemonic} {m : ReadMode}

/-- The state `ADC` and `SBC` leave: `A` and `P` from a shared addition of `v`, after the fetch and the charge of the
instruction. -/
def addedState (i : Instr) (m : ReadMode) (v : Byte) (s : State) : State :=
  { s with
    a := (addWithCarry s.a v s.p).1, p := (addWithCarry s.a v s.p).2
    pc := s.pc + BitVec.ofNat 16 i.length, cyc := m.cycles + penalty m s }

/-- `ADC` adds the operand (R160). -/
theorem exec_adc (h : i.form = .read .ADC m) (s : State) : exec i s = .next (addedState i m (operand m s) s) := by
  rw [exec_of_form h, formEffect, readEffect, adcOp, readAdvance_of_form h]
  rfl

/-- `SBC` adds the complement of the operand (R161). -/
theorem exec_sbc (h : i.form = .read .SBC m) (s : State) :
    exec i s = .next (addedState i m (operand m s ^^^ 0xFF) s) := by
  rw [exec_of_form h, formEffect, readEffect, sbcOp, readAdvance_of_form h]
  rfl

/-- A compare instruction writes `P` alone, from the comparison of its register with the operand (R162 to R164). -/
theorem exec_compare {s : State} {r : Byte} (h : i.form = .read mn m) (hr : comparedRegister mn s = some r) :
    exec i s = .next { s with
      p := compareFlags r (operand m s) s.p
      pc := s.pc + BitVec.ofNat 16 i.length, cyc := m.cycles + penalty m s } := by
  have heffect : readEffect mn m s = (readAdvance m m.cycles s).setP (compareFlags r (operand m s) s.p) := by
    cases mn with
    | CMP | CPX | CPY => cases hr; rfl
    | _ => cases hr
  rw [exec_of_form h, formEffect, heffect, readAdvance_of_form h]
  rfl

end

end Sys2Proof.Machine

namespace Sys2Proof.Proofs.ArithmeticCompareFamily
open Sys2Proof.Machine

/-- Settles O38: the sum is that of the shared addition, whose result is the sum modulo 256. -/
theorem addWithCarry : Obligations.AddWithCarry := by
  unfold Obligations.AddWithCarry
  rintro i m s w hform rfl
  have hresult := addWithCarry_fst_toNat s.a (operand m s) s.p
  refine ⟨_, exec_adc hform s, hresult, addWithCarry_c .., ?z, ?n, addWithCarry_v .., addWithCarry_and_mask .., rfl⟩
  case z =>
    rw [← hresult]
    exact (addWithCarry_z ..).trans (decide_eq_decide.2 BitVec.toNat_inj.symm)
  case n =>
    rw [← hresult]
    exact addWithCarry_n ..

/-- Settles O39: the shared addition of the complement is the difference plus 256, so its carry says that the difference
is not negative and its result is the difference modulo 256. -/
theorem subtractWithBorrow : Obligations.SubtractWithBorrow := by
  unfold Obligations.SubtractWithBorrow
  rintro i m s d hform rfl
  have hsum := add_complement_eq_sub_borrow s.a (operand m s) s.p
  have hresult := addWithCarry_fst_toNat s.a (operand m s ^^^ 0xFF) s.p
  have hcarry := addWithCarry_c s.a (operand m s ^^^ 0xFF) s.p
  refine ⟨_, exec_sbc hform s, ?a, hcarry.trans (decide_eq_decide.2 ?c), addWithCarry_z .., addWithCarry_n ..,
    addWithCarry_v .., addWithCarry_and_mask .., rfl⟩
  case a =>
    rw [addedState, hresult, Int.natCast_emod, hsum]
    exact Int.add_emod_right ..
  case c => omega

/-- Settles O40: C, Z and N are those of the shared comparison, which writes no other bit. -/
theorem compares : Obligations.Compares := by
  unfold Obligations.Compares
  intro i mn m s r hform hr
  exact ⟨_, exec_compare hform hr, compareFlags_c .., compareFlags_z .., compareFlags_n .., compareFlags_and_mask ..,
    rfl⟩

end Sys2Proof.Proofs.ArithmeticCompareFamily
end

section
/-! `BIT` of spec/44_logic_bit.md: where each flag it writes comes from, and that it writes no other bit and no register
but `P`. -/

namespace Sys2Proof.Machine

/-! ### The flags of `BIT` -/

section
variable (a m p : Byte)

/-- N is bit 7 of the memory byte, not of the and (R173). -/
theorem bitFlags_n : (bitFlags a m p).getLsbD 7 = m.getLsbD 7 :=
  bitFlags_bit a m p 7

/-- V is bit 6 of the memory byte (R173). -/
theorem bitFlags_v : (bitFlags a m p).getLsbD 6 = m.getLsbD 6 :=
  bitFlags_bit a m p 6

theorem bitFlags_z : (bitFlags a m p).getLsbD 1 = decide (a &&& m = 0) :=
  bitFlags_bit a m p 1

/-- C, D, I and bits 4 and 5 are kept (R25). -/
theorem bitFlags_and_mask : bitFlags a m p &&& 0x3D = p &&& 0x3D :=
  and_eq_and_of_getLsbD fun _ hk =>
    bitFlags_keeps (ne_of_mask hk rfl) (ne_of_mask hk rfl) (ne_of_mask hk rfl) a m p

end

/-! ### The instruction -/

/-- `BIT` writes `P` alone, from `A` and the operand (R173). -/
theorem exec_bit {i : Instr} {m : ReadMode} (h : i.form = .read .BIT m) (s : State) :
    exec i s = .next { s with
      p := bitFlags s.a (operand m s) s.p
      pc := s.pc + BitVec.ofNat 16 i.length, cyc := m.cycles + penalty m s } := by
  rw [exec_of_form h, formEffect, readEffect, bitOp, readAdvance_of_form h]
  rfl

end Sys2Proof.Machine

namespace Sys2Proof.Proofs.LogicBitFamily
open Sys2Proof.Machine

/-- Settles O41: N, V and Z are those of the flag computation of `BIT`, which writes no other bit. -/
theorem bitTest : Obligations.BitTest := by
  unfold Obligations.BitTest
  intro i m s hform
  exact ⟨_, exec_bit hform s, bitFlags_n .., bitFlags_v .., bitFlags_z .., bitFlags_and_mask .., rfl⟩

end Sys2Proof.Proofs.LogicBitFamily
end

section
/-! The obligations of spec/45_shift_incdec.md: the byte each read-modify-write instruction makes in integers, the flags
it leaves, and the state it leaves in the accumulator form and in the memory forms. -/

namespace Sys2Proof.Machine
open Sys2Proof.Claims

/-! ### The byte a shift or a rotate makes -/

section
variable (v : Byte)

theorem shiftLeft_one_toNat : (v <<< 1).toNat = 2 * v.toNat % 256 := by
  rw [BitVec.toNat_shiftLeft, Nat.shiftLeft_eq, Nat.mul_comm]

theorem ushiftRight_one_toNat : (v >>> 1).toNat = v.toNat / 2 := by
  rw [BitVec.toNat_ushiftRight, Nat.shiftRight_eq_div_pow]

/-- Words with no common bit are joined by adding them. -/
theorem or_toNat_of_and_eq_zero {n : Nat} {x y : BitVec n} (h : x &&& y = 0) : (x ||| y).toNat = x.toNat + y.toNat := by
  rw [← BitVec.add_eq_or_of_and_eq_zero x y h, BitVec.toNat_add_of_and_eq_zero h]

/-- The carry enters at bit 0, which a shift to the left has cleared (R182). -/
theorem shiftLeft_or_carry_toNat (c : Bool) :
    (v <<< 1 ||| if c then 1 else 0).toNat = (2 * v.toNat + c.toNat) % 256 := by
  have hdisjoint : v <<< 1 &&& (if c then 1 else 0) = 0 := by revert v c; decide
  rw [or_toNat_of_and_eq_zero hdisjoint, shiftLeft_one_toNat]
  cases c with
  | false => rfl
  | true =>
    change 2 * v.toNat % 256 + 1 = (2 * v.toNat + 1) % 256
    omega

/-- The carry enters at bit 7, which a shift to the right has cleared (R183). -/
theorem ushiftRight_or_carry_toNat (c : Bool) :
    (v >>> 1 ||| if c then 0x80 else 0).toNat = v.toNat / 2 + 128 * c.toNat := by
  have hdisjoint : v >>> 1 &&& (if c then 0x80 else 0) = 0 := by revert v c; decide
  rw [or_toNat_of_and_eq_zero hdisjoint, ushiftRight_one_toNat]
  cases c <;> rfl

/-! ### The bit that moves out, and C -/

/-- Bit 7, which `ASL` and `ROL` move out (R180, R182). -/
theorem getLsbD_seven_eq_decide : v.getLsbD 7 = decide (128 ≤ v.toNat) :=
  BitVec.msb_eq_decide v

/-- Bit 0, which `LSR` and `ROR` move out (R181, R183). -/
theorem getLsbD_zero_eq_decide : v.getLsbD 0 = decide (v.toNat % 2 = 1) :=
  Nat.testBit_zero v.toNat

/-- Writing a flag with the value it has changes nothing. -/
theorem setFlag_self (f : Flag) (p : Byte) : setFlag f (p.getLsbD f.bit) p = p := by
  refine BitVec.eq_of_getLsbD_eq fun k _ => ?_
  rw [setFlag_bit]
  split
  case isTrue hk => rw [hk]
  case isFalse => rfl

end

/-! ### The byte functions, for all six mnemonics -/

section
variable {mn : Mnemonic} {f : Byte → Byte → Byte × Byte} (hf : rmwByte mn = some f) (v p : Byte)
include hf

/-- The result is that of R180 to R185. -/
theorem rmwResult_eq_rmwByte_fst : rmwResult mn v.toNat (p.getLsbD 0).toNat = some (f v p).1.toNat := by
  have hcarry : flag .c p = p.getLsbD 0 := flag_eq_bit .c p
  cases mn with
  | ASL => cases hf; exact congrArg some (shiftLeft_one_toNat v).symm
  | LSR => cases hf; exact congrArg some (ushiftRight_one_toNat v).symm
  | ROL => cases hf; rw [rolByte, hcarry, shiftLeft_or_carry_toNat]; rfl
  | ROR => cases hf; rw [rorByte, hcarry, ushiftRight_or_carry_toNat]; rfl
  | INC => cases hf; exact congrArg some (BitVec.toNat_add v 1).symm
  | DEC =>
    cases hf
    refine congrArg some ?_
    rw [decByte, BitVec.toNat_sub, Nat.add_comm]
    rfl
  | _ => cases hf

/-- All six write C and then N and Z from the result; what `INC` and `DEC` write in C is what stands there. -/
theorem rmwByte_snd : (f v p).2 = setNZ (f v p).1 (setFlag .c (rmwCarry mn v.toNat (p.getLsbD 0)) p) := by
  cases mn with
  | ASL | ROL =>
    cases hf
    rw [rmwCarry, ← getLsbD_seven_eq_decide]
    rfl
  | LSR | ROR =>
    cases hf
    rw [rmwCarry, ← getLsbD_zero_eq_decide]
    rfl
  | INC | DEC =>
    cases hf
    exact congrArg (setNZ _) (setFlag_self .c p).symm
  | _ => cases hf

theorem rmwByte_c : (f v p).2.getLsbD 0 = rmwCarry mn v.toNat (p.getLsbD 0) := by
  rw [rmwByte_snd hf, setNZ_keeps (by decide) (by decide), setFlag_bit]
  rfl

theorem rmwByte_z : (f v p).2.getLsbD 1 = decide ((f v p).1.toNat = 0) := by
  rw [rmwByte_snd hf]
  exact Proofs.StateFamily.setNZ _ _ 1 (by decide)

theorem rmwByte_n : (f v p).2.getLsbD 7 = decide (128 ≤ (f v p).1.toNat) := by
  rw [rmwByte_snd hf]
  exact Proofs.StateFamily.setNZ _ _ 7 (by decide)

/-- V, D, I and bits 4 and 5 are kept (R25). -/
theorem rmwByte_and_mask : (f v p).2 &&& 0x7C = p &&& 0x7C := by
  rw [rmwByte_snd hf]
  exact and_eq_and_of_getLsbD fun _ hk =>
    setNZ_setFlag_c_keeps (ne_of_mask hk rfl) (ne_of_mask hk rfl) (ne_of_mask hk rfl) ..

end

/-! ### The instructions -/

section
variable {mn : Mnemonic} {f : Byte → Byte → Byte × Byte} {s : State}

/-- Each read-modify-write mnemonic has a byte function. -/
theorem rmwByte_of_inTable {m : RmwMode} (h : (Form.rmw mn m).inTable = true) : ∃ f, rmwByte mn = some f := by
  cases mn with
  | ASL | LSR | ROL | ROR | INC | DEC => exact ⟨_, rfl⟩
  | _ => cases h

/-- A read-modify-write instruction is `RMW` of the byte function of its mnemonic (R120). -/
theorem exec_rmw {i : Instr} {m : RmwMode} (h : i.form = .rmw mn m) (hf : rmwByte mn = some f) (s : State) :
    exec i s = .next (rmw m m.cycles f s) := by
  rw [exec_of_form h, formEffect, rmwEffect_eq, hf]
  rfl

/-- `RMW` on memory writes one byte at the effective address, where it has read: neither a read nor the event history
sees the fetch and the charge before the write (R121). -/
theorem rmw_wroteByte (hs : MemoryInv s) (m : MemMode) (base : Nat) :
    WroteByte (effAddr m s).addr (f (memRead s (effAddr m s).addr) s.p).1 s (rmw (.mem m) base f s) :=
  memWrite_wroteByte (s := s.advance m.length base) hs ..

/-- `RMW` on memory changes `P`, `PC`, the cycles, `Mem` and the event history alone. -/
theorem rmw_sameRest (m : MemMode) (base : Nat) :
    rmw (.mem m) base f s = { s with
      p := (rmw (.mem m) base f s).p, pc := s.pc + BitVec.ofNat 16 m.length, cyc := base
      mem := (rmw (.mem m) base f s).mem, chip := (rmw (.mem m) base f s).chip } :=
  congrArg (State.setP (f (memRead s (effAddr m s).addr) s.p).2) (memWrite_sameRest ..)

end

end Sys2Proof.Machine

namespace Sys2Proof.Proofs.ShiftIncDecFamily
open Sys2Proof.Machine

/-- Settles O42: the accumulator form writes `A` and `P` from the byte function of its mnemonic, applied to `A`. -/
theorem readModifyWriteAccumulator : Obligations.ReadModifyWriteAccumulator := by
  unfold Obligations.ReadModifyWriteAccumulator
  intro i mn s hform
  obtain ⟨f, hf⟩ := rmwByte_of_inTable (hform ▸ i.form_inTable)
  refine ⟨_, rmw .acc 2 f s, rmwResult_eq_rmwByte_fst hf s.a s.p, exec_rmw hform hf s, rmwByte_c hf .., rmwByte_z hf ..,
    rmwByte_n hf .., rmwByte_and_mask hf .., ?_⟩
  rw [BitVec.ofNat_toNat, BitVec.setWidth_eq]
  rfl

/-- Settles O43: the memory form writes the byte function's result where it has read its argument, by one write through
the write path, and `P` from the same byte function. -/
theorem readModifyWriteMemory : Obligations.ReadModifyWriteMemory := by
  unfold Obligations.ReadModifyWriteMemory
  rintro i mn m s v hs hform rfl
  obtain ⟨f, hf⟩ := rmwByte_of_inTable (hform ▸ i.form_inTable)
  have hlen : i.length = m.length := congrArg Form.length hform
  refine ⟨_, rmw (.mem m) (RmwMode.mem m).cycles f s, rmwResult_eq_rmwByte_fst hf _ s.p, exec_rmw hform hf s, ?write,
    rmwByte_c hf .., rmwByte_z hf .., rmwByte_n hf .., rmwByte_and_mask hf .., ?rest⟩
  case write =>
    rw [BitVec.ofNat_toNat, BitVec.setWidth_eq]
    exact rmw_wroteByte hs ..
  case rest =>
    rw [hlen]
    exact rmw_sameRest ..

end Sys2Proof.Proofs.ShiftIncDecFamily
end

section
/-! The obligations of spec/46_control_transfer.md: the target of a branch in integers, the address a call pushes and
the one a return goes to, and `BRK`, which ends a routine. -/

namespace Sys2Proof.Machine
open Sys2Proof.Claims

/-- A bit vector is spelt by its number. -/
theorem eq_ofNat_of_toNat {n k : Nat} {x : BitVec n} (h : x.toNat = k) : x = BitVec.ofNat n k := by
  rw [← h, BitVec.ofNat_toNat, BitVec.setWidth_eq]

/-! ### Branches -/

/-- The target of a taken branch: the address behind it plus the signed displacement (R113). -/
theorem branch_true_pc (d : Byte) (s : State) :
    ((branch true d s).pc.toNat : Int) = (s.pc.toNat + 2 + d.toInt) % 65536 := by
  have hpc : (branch true d s).pc = s.pc + 2 + BitVec.ofInt 16 d.toInt := rfl
  have hd : ((BitVec.ofInt 16 d.toInt).toNat : Int) = d.toInt % 65536 :=
    (congrArg Nat.cast (BitVec.toNat_ofInt ..)).trans (Int.toNat_of_nonneg (Int.emod_nonneg _ (by decide)))
  have hnext : (s.pc + 2).toNat = (s.pc.toNat + 2) % 65536 := BitVec.toNat_add ..
  rw [hpc, BitVec.toNat_add, hnext]
  omega

/-- The charge of a taken branch: 3 cycles on the page of the address behind it, 4 on another (R200). -/
theorem branch_true_cyc (d : Byte) (s : State) :
    (branch true d s).cyc =
      if (branch true d s).pc.toNat / 256 = (s.pc.toNat + 2) % 65536 / 256 then 3 else 4 := by
  rw [branch_cyc, if_pos rfl]
  split <;> rfl

/-- A branch changes `PC` and the cycles alone. -/
theorem branch_sameRest (taken : Bool) (d : Byte) (s : State) :
    branch taken d s = { s with pc := (branch taken d s).pc, cyc := (branch taken d s).cyc } := by
  cases taken <;> rfl

/-- A branch instruction is `Branch` of its condition on the bits of `P` (R201 to R208). -/
theorem exec_branch {i : Instr} {mn : Mnemonic} {d : Byte} {s : State} {taken : Bool} (h : i.form = .branch mn d)
    (htaken : branchTaken mn s.p = some taken) : exec i s = .next (branch taken d s) := by
  rw [exec_of_form h, formEffect, branchEffect_eq htaken]

/-! ### The pointer of an indirect jump -/

/-- Two bytes of memory as an address, low byte first, in integers (R10, R56). -/
theorem memRead16_eq_ofNat (s : State) (lo hi : Word) :
    memRead16 s lo hi = BitVec.ofNat 16 ((memRead s lo).toNat + 256 * (memRead s hi).toNat) :=
  eq_ofNat_of_toNat (memRead16_toNat ..)

theorem add_one_eq_ofNat (p : Word) : p + 1 = BitVec.ofNat 16 ((p.toNat + 1) % 65536) :=
  eq_ofNat_of_toNat (BitVec.toNat_add ..)

/-- The next address on the same page (R114). -/
theorem joinBytes_lowByte_succ (p : Word) :
    joinBytes (highByte p) (lowByte p + 1) = BitVec.ofNat 16 (p.toNat / 256 * 256 + (p.toNat + 1) % 256) := by
  have hlow : (lowByte p + 1).toNat = (p.toNat + 1) % 256 := by
    rw [BitVec.toNat_add, lowByte_toNat, Nat.mod_add_mod]
    rfl
  rw [joinBytes, highByte_toNat, hlow]

/-! ### The address a call pushes -/

theorem lowByte_eq_ofNat (w : Word) : lowByte w = BitVec.ofNat 8 (w.toNat % 256) :=
  eq_ofNat_of_toNat (lowByte_toNat w)

theorem highByte_eq_ofNat (w : Word) : highByte w = BitVec.ofNat 8 (w.toNat / 256) :=
  eq_ofNat_of_toNat (highByte_toNat w)

theorem spDown_toNat (sp : Byte) : (spDown sp).toNat = sp.toNat - 1 := by
  rw [spDown_eq_ofNat]
  bv_omega

/-- The two bytes `JSR` pushes; at the clamp the low byte, pushed last, overwrites the high one (R150, R211). -/
theorem memRead_pushAddr {s : State} (hs : MemoryInv s) (r : Word) (c : Word) :
    memRead (pushAddr r s) c =
      if c.toNat = 256 + (s.sp.toNat - 1) then lowByte r
      else if c.toNat = 256 + s.sp.toNat then highByte r
      else memRead s c := by
  rw [pushAddr, memRead_push_toNat (push_memoryInv hs _), push_sp, spDown_toNat, memRead_push_toNat hs]

theorem spDown_spDown_eq_ofNat (sp : Byte) : spDown (spDown sp) = BitVec.ofNat 8 (sp.toNat - 2) := by
  rw [spDown_eq_ofNat (spDown sp), spDown_toNat, Nat.sub_sub]

/-- Pushing an address changes `Mem` and `S` alone. -/
theorem pushAddr_eq (r : Word) (s : State) :
    pushAddr r s = { s with mem := (pushAddr r s).mem, sp := BitVec.ofNat 8 (s.sp.toNat - 2) } := by
  rw [← spDown_spDown_eq_ofNat, pushAddr, push, push, memWrite_plain (inChipWindow_stackAddr _),
    memWrite_plain (inChipWindow_stackAddr _)]
  rfl

/-! ### The address a return goes to -/

/-- Two moves up, with the clamp at 255 (R151). -/
theorem spUp_spUp_toNat (sp : Byte) : (spUp (spUp sp)).toNat = min (sp.toNat + 2) 255 := by
  rw [spUp_toNat, spUp_toNat]
  omega

theorem spUp_spUp_eq_ofNat (sp : Byte) : spUp (spUp sp) = BitVec.ofNat 8 (min (sp.toNat + 2) 255) :=
  eq_ofNat_of_toNat (spUp_spUp_toNat sp)

/-- The second byte of two pops. -/
theorem popValue_pop_eq (s : State) :
    popValue (pop s) = memRead s (BitVec.ofNat 16 (256 + min (s.sp.toNat + 2) 255)) := by
  rw [← spUp_spUp_toNat, ← eq_ofNat_of_toNat (stackAddr_toNat _)]
  rfl

/-- The address a return goes to, from the two bytes popped, low byte first (R212). -/
theorem popReturn_eq_ofNat (s : State) :
    popReturn s = BitVec.ofNat 16 (256 * (popValue (pop s)).toNat + (popValue s).toNat + 1) := by
  rw [popReturn, joinBytes, Nat.mul_comm]
  exact (BitVec.ofNat_add _ 1).symm

/-! ### `BRK` at `PC` -/

/-- The byte 0 is fetched as `BRK` (R86). -/
theorem fetch_eq_brk {s : State} (h : memRead s s.pc = 0x00) : fetch s = .brk := by
  rw [fetch, h]
  rfl

end Sys2Proof.Machine

namespace Sys2Proof.Proofs.ControlTransferFamily
open Sys2Proof.Machine

/-- Settles O44, by whether the branch is taken. -/
theorem branches : Obligations.Branches := by
  unfold Obligations.Branches
  intro i mn d s hform
  obtain ⟨taken, htaken⟩ := branchTaken_of_inTable (hform ▸ i.form_inTable) s.p
  have hexec := exec_branch hform htaken
  cases taken with
  | false => exact .inl ⟨htaken, hexec⟩
  | true =>
    refine .inr ⟨htaken, branch true d s, hexec, branch_true_pc d s, ?_⟩
    rw [← branch_true_cyc]
    exact branch_sameRest true d s

/-- Settles O45: the parameter decides where the pointer's high byte is read. -/
theorem jumps : Obligations.Jumps := by
  unfold Obligations.Jumps
  intro s t p
  have hind : exec (.jmpInd p) s = .next { s with pc := indirectTarget p s, cyc := 5 } := rfl
  refine ⟨rfl, fun hwrap => ?linear, fun hwrap => ?wrapped⟩
  case linear => rw [hind, indirectTarget, hwrap, if_neg nofun, memRead16_eq_ofNat, add_one_eq_ofNat]
  case wrapped => rw [hind, indirectTarget, hwrap, if_pos rfl, memRead16_eq_ofNat, joinBytes_lowByte_succ]

/-- Settles O46: `JSR` is an advance of three bytes and six cycles, the push of the address of its last byte, and a
jump. -/
theorem jumpToSubroutine : Obligations.JumpToSubroutine := by
  unfold Obligations.JumpToSubroutine
  intro s target hs
  have hret : (s.pc + 2).toNat = (s.pc.toNat + 2) % 65536 := BitVec.toNat_add ..
  refine ⟨jsrOp target s, rfl, fun c => ?memory, ?rest⟩
  case memory =>
    rw [← hret, ← lowByte_eq_ofNat, ← highByte_eq_ofNat]
    exact memRead_pushAddr (s := s.advance 3 6) hs (s.pc + 2) c
  case rest => exact congrArg (State.setPc target) (pushAddr_eq (s.pc + 2) (s.advance 3 6))

/-- Settles O47: each is two pops after an advance, then a jump behind the address popped. -/
theorem returns : Obligations.Returns := by
  unfold Obligations.Returns
  rintro s lo hi rfl rfl
  rw [← popValue_eq, ← popValue_pop_eq, ← popReturn_eq_ofNat, ← spUp_spUp_eq_ofNat]
  exact ⟨rfl, rfl⟩

/-- Settles O48: the step at the `BRK` byte leaves `PC` at 0, where the next step ends the call. -/
theorem breakHaltsTheRoutine : Obligations.BreakHaltsTheRoutine := by
  unfold Obligations.BreakHaltsTheRoutine
  refine fun s => ⟨rfl, fun total hphase hpc hbyte => ?_⟩
  have hcore : coreStep s = .next (brkOp s) := by
    rw [coreStep, fetch_eq_brk hbyte]
    rfl
  have hzero : (0 : Word) ≤ 1 := by decide
  exact ⟨_, step_run hphase (BitVec.not_le.2 hpc) hcore,
    step_return (caller := .bench) (total := total + 7) rfl hzero⟩

end Sys2Proof.Proofs.ControlTransferFamily
end

section
/-! The obligations of spec/47_flag_nop_illegal.md: the seven flag instructions are one operation on two masks, and the
undocumented bytes are the empty cells of the opcode grid. -/

namespace Sys2Proof.Machine

/-! ### One flag written behind the opcode fetch -/

section
variable (f : Flag) (s : State)

/-- Clearing a flag masks its one bit of `P` out (R11). -/
theorem advance_setP_clear :
    (s.advance 1 2).setP (setFlag f false s.p) = { s with p := s.p &&& ~~~f.mask, pc := s.pc + 1, cyc := 2 } := rfl

/-- Setting a flag masks its one bit of `P` in (R11). -/
theorem advance_setP_set :
    (s.advance 1 2).setP (setFlag f true s.p) = { s with p := s.p ||| f.mask, pc := s.pc + 1, cyc := 2 } := rfl

end

end Sys2Proof.Machine

namespace Sys2Proof.Proofs.FlagNopIllegalFamily
open Sys2Proof.Machine

/-- Settles O5: an undocumented byte is an empty cell of the opcode grid, which decodes without a look at what follows,
and its meaning is the opcode fetch. -/
theorem undocumentedBytesAreOneByteNoOps : Obligations.UndocumentedBytesAreOneByteNoOps := by
  unfold Obligations.UndocumentedBytesAreOneByteNoOps
  refine ⟨rfl, fun op hop => ?_⟩
  have hcell : tableEntry op = .undoc := (tableEntry_undoc_iff op).2 hop
  exact ⟨decode_undoc hcell, fun _ => rfl⟩

/-- Settles O49: each opcode byte is a one-byte cell of the grid, and each flag instruction clears or sets the flag of
its name behind the opcode fetch. -/
theorem flagInstructionsAndNop : Obligations.FlagInstructionsAndNop := by
  unfold Obligations.FlagInstructionsAndNop
  refine ⟨decode_f1 rfl _, decode_f1 rfl _, decode_f1 rfl _, decode_f1 rfl _, decode_f1 rfl _, decode_f1 rfl _,
    decode_f1 rfl _, decode_f1 rfl _, fun s => ⟨?clc, ?sec, ?cli, ?sei, ?cld, ?sed, ?clv, ?nop⟩⟩
  case clc => exact congrArg Host.Outcome.next (advance_setP_clear .c s)
  case sec => exact congrArg Host.Outcome.next (advance_setP_set .c s)
  case cli => exact congrArg Host.Outcome.next (advance_setP_clear .i s)
  case sei => exact congrArg Host.Outcome.next (advance_setP_set .i s)
  case cld => exact congrArg Host.Outcome.next (advance_setP_clear .d s)
  case sed => exact congrArg Host.Outcome.next (advance_setP_set .d s)
  case clv => exact congrArg Host.Outcome.next (advance_setP_clear .v s)
  case nop => rfl

end Sys2Proof.Proofs.FlagNopIllegalFamily
end

section
/-! The parts of a sequencer command, one equation a branch, so that no later proof opens their tests again. -/

namespace Sys2Proof.Machine

section
variable {s : State}

/-- A command that is done where it is accepted. -/
theorem step_reply {c : HostCommand} {cs : List HostCommand} {r : Reply} {u : State} (hp : s.phase = .idle)
    (hc : s.commands = c :: cs) (h : accept c { s with commands := cs } = .next (finish r u)) (hu : u.phase = .idle) :
    step s = .next { u with replies := u.replies ++ [r] } := by
  rw [step_idle hp hc, h, finish, ← hu]

/-! ### `changeTrack` -/

/-- R266, R284: no session, or no such track. -/
theorem changeTrack_ignored {n : Int} (h : s.loaded = false ∨ n < 0 ∨ (s.subsongCount.toNat : Int) < n) :
    changeTrack n s = finish .completed s := by
  unfold changeTrack
  split
  · rfl
  · next hl => exact if_pos (h.resolve_left hl)

/-- R266: the core's `reset()` before the call leaves no trace, since the call sets every register. -/
theorem changeTrack_valid {n : Int} (hl : s.loaded = true) (h0 : 0 ≤ n) (hn : n ≤ s.subsongCount.toNat) :
    changeTrack n s = startCall .trackInit s.initAddr (BitVec.ofInt 8 n)
      { s with ready := false, currentTrack := BitVec.ofInt 8 n, trackWritten := true } := by
  rw [changeTrack, if_neg (by simp [hl]), if_neg (by omega)]
  rfl

/-- Everything `changeTrack` can do. -/
theorem changeTrack_cases (n : Int) (s : State) :
    changeTrack n s = finish .completed s ∨
    s.loaded = true ∧ BitVec.ofInt 8 n ≤ s.subsongCount ∧
      changeTrack n s = startCall .trackInit s.initAddr (BitVec.ofInt 8 n)
        { s with ready := false, currentTrack := BitVec.ofInt 8 n, trackWritten := true } := by
  by_cases h : s.loaded = false ∨ n < 0 ∨ (s.subsongCount.toNat : Int) < n
  · exact .inl (changeTrack_ignored h)
  · simp only [not_or, Bool.not_eq_false, not_lt] at h
    obtain ⟨hl, h0, hn⟩ := h
    refine .inr ⟨hl, ?_, changeTrack_valid hl h0 hn⟩
    obtain ⟨m, rfl⟩ := Int.eq_ofNat_of_zero_le h0
    rw [BitVec.ofInt_natCast, BitVec.le_def, BitVec.toNat_ofNat]
    exact (Nat.mod_le ..).trans (Int.ofNat_le.1 hn)

theorem stepTrack_cases (d : Int) (s : State) :
    stepTrack d s = finish .completed s ∨ ∃ n, stepTrack d s = changeTrack n s := by
  unfold stepTrack
  split
  · exact .inr ⟨_, rfl⟩
  · exact .inl rfl

/-! ### `advanceFrame` -/

theorem advanceFrame_unloaded (hl : s.loaded = false) (caller : FrameCaller) :
    advanceFrame caller s = frameDone caller s :=
  if_pos hl

theorem advanceFrame_playing (hl : s.loaded = true) (hf : s.finished = false) (caller : FrameCaller) :
    advanceFrame caller s = startCall (.play caller) s.playAddr 0 s := by
  rw [advanceFrame, if_neg (by simp [hl]), if_pos hf]

theorem advanceFrame_finished (hl : s.loaded = true) (hf : s.finished = true) (caller : FrameCaller) :
    advanceFrame caller s = frameDone caller (terminalFrame s) := by
  rw [advanceFrame, if_neg (by simp [hl]), if_neg (by simp [hf])]

/-- Everything `advanceFrame` can do before its call of the play routine. -/
theorem advanceFrame_cases (caller : FrameCaller) (s : State) :
    s.loaded = false ∧ advanceFrame caller s = frameDone caller s ∨
    s.loaded = true ∧ s.finished = false ∧ advanceFrame caller s = startCall (.play caller) s.playAddr 0 s ∨
    s.loaded = true ∧ s.finished = true ∧ advanceFrame caller s = frameDone caller (terminalFrame s) := by
  cases hl : s.loaded with
  | false => exact .inl ⟨rfl, advanceFrame_unloaded hl caller⟩
  | true =>
    cases hf : s.finished with
    | false => exact .inr (.inl ⟨rfl, rfl, advanceFrame_playing hl hf caller⟩)
    | true => exact .inr (.inr ⟨rfl, rfl, advanceFrame_finished hl hf caller⟩)

/-- R266: the init routine of a track has returned; the frame that primes it begins. -/
theorem trackInitDone_eq (hl : s.loaded = true) :
    trackInitDone s = startCall (.play .changeTrack) s.playAddr 0
      { s with finished := false, samplesToNextFrame := some 0 } :=
  advanceFrame_playing (s := { s with finished := false, samplesToNextFrame := some 0 }) hl rfl _

/-- R268: the frame that begins lengthens the counter. -/
theorem accountFrame_some {k : Nat} (hk : s.samplesToNextFrame = some k) :
    accountFrame s = { s with
      samplesPerFrame := nextFrameSamples s, samplesToNextFrame := some (k + nextFrameSamples s) } := by
  rw [accountFrame, hk]

/-- Accounting a frame changes its length, the counter and the free values drawn, and nothing else. -/
theorem accountFrame_sameRest (s : State) :
    accountFrame s = { s with
      samplesPerFrame := (accountFrame s).samplesPerFrame, samplesToNextFrame := (accountFrame s).samplesToNextFrame
      draws := (accountFrame s).draws } := by
  unfold accountFrame
  split <;> rfl

/-- A frame can leave a null counter only where it found one. -/
theorem accountFrame_null (h : (accountFrame s).samplesToNextFrame = none) : s.samplesToNextFrame = none := by
  by_contra hne
  obtain ⟨k, hk⟩ := Option.ne_none_iff_exists'.1 hne
  rw [accountFrame_some hk] at h
  cases h

/-! ### `fill` -/

theorem fill_stopped (hr : s.ready = false) (sampleCount offset : Nat) :
    fill sampleCount offset s = finish (.samples 0) s :=
  if_pos hr

theorem fill_ready (hr : s.ready = true) (sampleCount offset : Nat) :
    fill sampleCount offset s = { s with phase := .filling sampleCount 0 offset } :=
  if_neg (by simp [hr])

/-- R273: equality counts as a boundary. -/
theorem fillTurn_boundary {k remaining : Nat} (hk : s.samplesToNextFrame = some k) (h : k ≤ remaining)
    (total offset : Nat) : fillTurn remaining total offset s = boundarySegment k remaining total offset s := by
  rw [fillTurn, hk]
  exact if_pos h

theorem fillTurn_final {remaining : Nat} (h : ∀ k, s.samplesToNextFrame = some k → remaining < k)
    (total offset : Nat) : fillTurn remaining total offset s = finalSegment remaining total offset s := by
  unfold fillTurn
  split
  · next k hk => exact if_neg (Nat.not_le.2 (h k hk))
  · rfl

/-- R274: what is asked of the collaborator, and what its answer is taken off. -/
theorem boundarySegment_pos {k : Nat} (hk : k ≠ 0) (remaining total offset : Nat) (s : State) :
    boundarySegment k remaining total offset s =
      advanceFrame (.fill (remaining - renderAnswer k s) (total + renderAnswer k s) offset) { s with
        chip := s.chip ++ [.render k (offset + total * s.cfg.sampleStride)]
        samplesToNextFrame := some (k - renderAnswer k s), answers := s.answers.tail
        draws := (emitRender k (offset + total * s.cfg.sampleStride) s).draws } := by
  rw [boundarySegment, if_neg hk, emitRender_sameRest]

/-- R276: what is asked of the collaborator, and what its answer is taken off. -/
theorem finalSegment_pos {remaining : Nat} (hr : remaining ≠ 0) (total offset : Nat) (s : State) :
    finalSegment remaining total offset s = fillDone (total + renderAnswer remaining s) { s with
      chip := s.chip ++ [.render remaining (offset + total * s.cfg.sampleStride)]
      samplesToNextFrame := s.samplesToNextFrame.map (· - renderAnswer remaining s), answers := s.answers.tail
      draws := (emitRender remaining (offset + total * s.cfg.sampleStride) s).draws } := by
  rw [finalSegment, if_neg hr, emitRender_sameRest]

/-- R277: `fill` returns the total, and a total of 0 ends the stream. -/
theorem fillDone_eq (total : Nat) (s : State) :
    fillDone total s = finish (.samples total) { s with
      ready := if total = 0 then false else s.ready
      finished := if total = 0 then true else s.finished } := by
  unfold fillDone
  split <;> rfl

end

end Sys2Proof.Machine
end

section
/-! The sequencer invariant (R285): what it says between commands, kept by every part of a command. -/

namespace Sys2Proof.Machine

/-! ### The invariant between commands and inside them -/

/-- What `SequencerInv` says of a session while no command of the sequencer is in progress. -/
def SessionInv (s : State) : Prop :=
  (s.ready = true → s.playable) ∧
  (s.ready = true → s.samplesToNextFrame = some 0 → s.samplesPerFrame = 0) ∧
  (s.trackWritten = true → s.currentTrack ≤ s.subsongCount) ∧
  (s.samplesToNextFrame = none → s.finished = true ∨ s.trackWritten = false)

section
variable {s : State}

theorem SequencerInv.phase_inv_of {ph : Phase} (h : SequencerInv s) (hp : s.phase = ph) : ph.inv s :=
  hp ▸ h.phase_inv

/-- Outside the init routine of a track a null counter means what it means between commands. -/
theorem SequencerInv.null_session (h : SequencerInv s) (hp : ∀ total, s.phase ≠ .call .trackInit total)
    (hnull : s.samplesToNextFrame = none) : s.finished = true ∨ s.trackWritten = false := by
  rcases h.null_finished hnull with hf | hw | ⟨total, hinit⟩
  · exact .inl hf
  · exact .inr hw
  · exact absurd hinit (hp total)

theorem SequencerInv.session (h : SequencerInv s) (hp : s.phase = .idle ∨ ∃ total, s.phase = .call .bench total) :
    SessionInv s := by
  refine ⟨h.ready_playable, fun hr => h.ready_counter_pos hr hp, h.track_in_range, h.null_session fun total hinit => ?_⟩
  rw [hinit] at hp
  rcases hp with hp | ⟨_, hp⟩ <;> cases hp

theorem SessionInv.sequencerInv (h : SessionInv s) (hp : s.phase.inv s) : SequencerInv s := by
  obtain ⟨hplay, hpos, htrack, hnull⟩ := h
  exact ⟨hplay, fun hr _ => hpos hr, htrack, fun h => (hnull h).imp_right .inl, hp⟩

theorem SessionInv.finish (h : SessionInv s) (r : Reply) : SequencerInv (finish r s) :=
  SessionInv.sequencerInv (s := Machine.finish r s) h trivial

/-- A session that is not ready owes only the range of its track and what a null counter means. -/
theorem sessionInv_of_not_ready (hr : s.ready = false)
    (htrack : s.trackWritten = true → s.currentTrack ≤ s.subsongCount)
    (hnull : s.samplesToNextFrame = none → s.finished = true ∨ s.trackWritten = false) : SessionInv s := by
  have hnot : ¬s.ready = true := by simp [hr]
  exact ⟨fun h => absurd h hnot, fun h => absurd h hnot, htrack, hnull⟩

theorem State.playable.session (h : s.playable) (hpos : s.samplesToNextFrame = some 0 → s.samplesPerFrame = 0) :
    SessionInv s := by
  obtain ⟨-, -, hcounter, -, htrack⟩ := id h
  exact ⟨fun _ => h, fun _ => hpos, fun _ => htrack, fun hnull => absurd hnull hcounter⟩

theorem State.playable.withCounter (h : s.playable) (k : Nat) :
    State.playable { s with samplesToNextFrame := some k } := by
  obtain ⟨hl, hf, -, htrack⟩ := h
  exact ⟨hl, hf, nofun, htrack⟩

/-- A playable session inside a command: its counter may stand at 0 (R273). -/
theorem State.playable.sequencerInv (h : s.playable) (hp : s.phase.inv s) (hidle : s.phase ≠ .idle)
    (hbench : ∀ total, s.phase ≠ .call .bench total) : SequencerInv s := by
  obtain ⟨-, -, hcounter, -, htrack⟩ := id h
  refine ⟨fun _ => h, fun _ hp => ?_, fun _ => htrack, fun hnull => absurd hnull hcounter, hp⟩
  rcases hp with hp | ⟨total, hp⟩
  · exact absurd hp hidle
  · exact absurd hp (hbench total)

/-- The init routine of a track has been entered: a null counter of the session before may still stand (R263). -/
theorem sequencerInv_trackInit {total : Nat} (hp : s.phase = .call .trackInit total) (hl : s.loaded = true)
    (hr : s.ready = false) (hw : s.trackWritten = true) (htrack : s.currentTrack ≤ s.subsongCount) :
    SequencerInv s := by
  have hnot : ¬s.ready = true := by simp [hr]
  refine ⟨fun h => absurd h hnot, fun h => absurd h hnot, fun _ => htrack, fun _ => .inr (.inr ⟨total, hp⟩), ?_⟩
  rw [hp]
  exact ⟨hl, hr, hw, htrack⟩

/-! ### The parts of a command -/

theorem SessionInv.changeTrack (h : SessionInv s) (n : Int) : SequencerInv (changeTrack n s) := by
  rcases changeTrack_cases n s with he | ⟨hl, hn, he⟩
  · rw [he]
    exact h.finish _
  · rw [he, startCall_eq]
    exact sequencerInv_trackInit rfl hl rfl rfl hn

theorem SessionInv.stepTrack (h : SessionInv s) (d : Int) : SequencerInv (stepTrack d s) := by
  rcases stepTrack_cases d s with he | ⟨n, he⟩
  · rw [he]
    exact h.finish _
  · rw [he]
    exact h.changeTrack n

theorem SessionInv.loadTail (h : SessionInv s) : SequencerInv (loadTail s) := by
  rw [Machine.loadTail, memWrite_volume]
  exact SessionInv.changeTrack (by exact h) _

/-- A session just loaded is not ready and has selected no track, whatever counter it has inherited (R263). -/
theorem load_sequencerInv (image : Memory) (initAddr playAddr : Word) (startTrack subsongCount speedFlag : Byte) :
    SequencerInv (load image initAddr playAddr startTrack subsongCount speedFlag s) := by
  have hsession : SessionInv { s with
      mem := image, initAddr := initAddr, playAddr := playAddr, startTrack := startTrack
      subsongCount := subsongCount, speedFlag := speedFlag, loaded := true, ready := false, finished := false
      trackWritten := false } := sessionInv_of_not_ready rfl nofun fun _ => .inr rfl
  unfold load
  split
  · rw [startCall_eq]
    exact SessionInv.sequencerInv (by exact hsession) ⟨rfl, rfl, rfl⟩
  · exact hsession.loadTail

theorem SessionInv.stop (h : SessionInv s) : SequencerInv (stop s) := by
  obtain ⟨-, -, htrack, hnull⟩ := h
  exact (sessionInv_of_not_ready (s := { s with ready := false }) rfl htrack hnull).finish _

theorem SessionInv.advanceFrame_host (h : SessionInv s) : SequencerInv (advanceFrame .host s) := by
  rcases advanceFrame_cases .host s with ⟨-, he⟩ | ⟨hl, hf, he⟩ | ⟨-, hf, he⟩
  · rw [he]
    exact h.finish _
  · rw [he, startCall_eq]
    exact SessionInv.sequencerInv (by exact h) ⟨hl, hf⟩
  · obtain ⟨hplay, -, htrack, -⟩ := h
    have hr : s.ready = false := by
      refine Bool.eq_false_iff.2 fun hr => ?_
      obtain ⟨-, hnf, -⟩ := hplay hr
      simp [hf] at hnf
    rw [he, terminalFrame_eq]
    have hended : SessionInv { s with samplesToNextFrame := none, finished := true } :=
      sessionInv_of_not_ready hr htrack fun _ => .inl rfl
    exact SessionInv.finish (by exact hended) _

/-- The play routine of a playable session is entered. -/
theorem State.playable.advanceFrame (h : s.playable) {caller : FrameCaller}
    (hp : ∀ t : State, t.playable → t.ready = s.ready → Phase.inv (.call (.play caller) 0) t) :
    SequencerInv (advanceFrame caller s) := by
  obtain ⟨hl, hf, -⟩ := id h
  rw [advanceFrame_playing hl hf, startCall_eq]
  exact State.playable.sequencerInv h (hp _ h rfl) nofun nofun

theorem SessionInv.fill (h : SessionInv s) (n offset : Nat) : SequencerInv (fill n offset s) := by
  cases hr : s.ready with
  | false =>
    rw [fill_stopped hr]
    exact h.finish _
  | true =>
    rw [fill_ready hr]
    exact SessionInv.sequencerInv (by exact h) hr

/-- The end of `fill`: the session stays ready, its counter positive, or it has ended (R277). -/
theorem SessionInv.fillDone (h : SessionInv s) (total : Nat) : SequencerInv (fillDone total s) := by
  unfold Machine.fillDone
  split
  · obtain ⟨-, -, htrack, -⟩ := h
    exact (sessionInv_of_not_ready (s := { s with ready := false, finished := true }) rfl htrack
      fun _ => .inl rfl).finish _
  · exact h.finish _

/-- R274: the counter is brought to the boundary and the play routine is entered. -/
theorem State.playable.boundarySegment (h : s.playable) (hr : s.ready = true) (k remaining total offset : Nat) :
    SequencerInv (boundarySegment k remaining total offset s) := by
  by_cases hk : k = 0
  · rw [Machine.boundarySegment, if_pos hk]
    exact h.advanceFrame fun t _ ht => ht.trans hr
  · rw [boundarySegment_pos hk]
    generalize renderAnswer k s = g
    refine State.playable.advanceFrame ?_ fun t _ ht => ht.trans hr
    exact h.withCounter (k - g)

/-- R276: the counter was above what remained, and the answer is at most that, so it stays positive. -/
theorem State.playable.finalSegment (h : s.playable) {k remaining : Nat} (hk : s.samplesToNextFrame = some k)
    (hlt : remaining < k) (total offset : Nat) : SequencerInv (finalSegment remaining total offset s) := by
  have hsession (g : Nat) (hg : g ≤ remaining) : SessionInv { s with samplesToNextFrame := some (k - g) } := by
    refine (h.withCounter (k - g)).session fun h0 => ?_
    have hzero : k - g = 0 := Option.some_inj.1 h0
    omega
  by_cases hr : remaining = 0
  · rw [Machine.finalSegment, if_pos hr]
    have hsame := hsession 0 (Nat.zero_le _)
    rw [Nat.sub_zero, ← hk] at hsame
    exact hsame.fillDone total
  · have hg := hsession _ (renderAnswer_le s remaining)
    rw [finalSegment_pos hr, hk, Option.map_some]
    exact SessionInv.fillDone (by exact hg) _

theorem SequencerInv.fillTurn (h : SequencerInv s) {remaining total offset : Nat}
    (hp : s.phase = .filling remaining total offset) : SequencerInv (fillTurn remaining total offset s) := by
  have hr : s.ready = true := h.phase_inv_of hp
  have hplay := h.ready_playable hr
  obtain ⟨-, -, hcounter, -⟩ := id hplay
  obtain ⟨k, hk⟩ := Option.ne_none_iff_exists'.1 hcounter
  by_cases hle : k ≤ remaining
  · rw [fillTurn_boundary hk hle]
    exact hplay.boundarySegment hr ..
  · rw [fillTurn_final (by simpa [hk] using hle)]
    exact hplay.finalSegment hk (by omega) ..

/-! ### The return of a routine -/

/-- The first frame of a playable session has been accounted: a counter of 0 means that the frame has no samples. -/
theorem State.playable.accountFrame (h : s.playable) : SessionInv { accountFrame s with ready := true } := by
  obtain ⟨-, -, hcounter, -⟩ := id h
  obtain ⟨k, hk⟩ := Option.ne_none_iff_exists'.1 hcounter
  rw [accountFrame_some hk]
  exact State.playable.session (h.withCounter _) fun h0 => Nat.eq_zero_of_add_eq_zero_left (Option.some_inj.1 h0)

/-- Accounting a frame outside the init routine: a null counter was null before. -/
theorem SequencerInv.accountFrame (h : SequencerInv s) (hp : ∀ total, s.phase ≠ .call .trackInit total) :
    SessionInv (accountFrame s) := by
  cases hr : s.ready with
  | true =>
    have hsession := (h.ready_playable hr).accountFrame
    rw [accountFrame_sameRest] at hsession ⊢
    rwa [← hr] at hsession
  | false =>
    have hnull := fun hnull => h.null_session hp (accountFrame_null hnull)
    rw [accountFrame_sameRest]
    exact sessionInv_of_not_ready hr h.track_in_range hnull

theorem SequencerInv.loadVectorDone (h : SequencerInv s) {total : Nat} (hp : s.phase = .call .loadVector total) :
    SequencerInv (loadVectorDone s) := by
  obtain ⟨-, hr, -⟩ : s.loaded = true ∧ s.ready = false ∧ s.finished = false := h.phase_inv_of hp
  have hsession := sessionInv_of_not_ready hr h.track_in_range (h.null_session (by simp [hp]))
  exact SessionInv.loadTail (by exact hsession)

/-- R266: a track whose init routine has returned is playable. -/
theorem SequencerInv.trackInitDone (h : SequencerInv s) {total : Nat} (hp : s.phase = .call .trackInit total) :
    SequencerInv (trackInitDone s) := by
  obtain ⟨hl, hr, hw, htrack⟩ :
    s.loaded = true ∧ s.ready = false ∧ s.trackWritten = true ∧ s.currentTrack ≤ s.subsongCount := h.phase_inv_of hp
  have hplay : State.playable { s with finished := false, samplesToNextFrame := some 0 } := ⟨hl, rfl, nofun, hw, htrack⟩
  exact hplay.advanceFrame fun t ht htr => ⟨htr.trans hr, ht⟩

theorem SequencerInv.resume (h : SequencerInv s) {caller : CallReturn} {total : Nat}
    (hp : s.phase = .call caller total) : SequencerInv (resume caller total s) := by
  match caller with
  | .bench => exact (h.session (.inr ⟨total, hp⟩)).finish _
  | .loadVector => exact h.loadVectorDone hp
  | .trackInit => exact h.trackInitDone hp
  | .play .host => exact (h.accountFrame (by simp [hp])).finish _
  | .play .changeTrack =>
    obtain ⟨-, hplay⟩ : s.ready = false ∧ s.playable := h.phase_inv_of hp
    exact hplay.accountFrame.finish _
  | .play (.fill remaining written offset) =>
    have hr : s.ready = true := h.phase_inv_of hp
    have hsession := h.accountFrame (by simp [hp])
    rw [accountFrame_sameRest] at hsession
    rw [Machine.resume, accountFrame_sameRest]
    exact SessionInv.sequencerInv (by exact hsession) hr

/-! ### The step -/

/-- An instruction looks at no session field. -/
theorem CoreEffect.session {t : State} (he : CoreEffect s t) (h : SessionInv s) : SessionInv t := by
  rw [he.1]
  exact h

theorem SessionInv.accept (h : SessionInv s) {c : HostCommand} {t : State} (hc : accept c s = .next t) :
    SequencerInv t := by
  cases c with
  | load image ia pa st sc sf =>
    simp only [Machine.accept] at hc
    split at hc
    · cases hc
      exact load_sequencerInv ..
    · cases hc
  | changeTrack n => cases hc; exact h.changeTrack n
  | nextTrack => cases hc; exact h.stepTrack 1
  | prevTrack => cases hc; exact h.stepTrack (-1)
  | stop => cases hc; exact h.stop
  | advanceFrame => cases hc; exact h.advanceFrame_host
  | fill n offset => cases hc; exact h.fill n offset
  | coreStep =>
    obtain ⟨u, hu, he⟩ := coreStep_effect s
    simp only [Machine.accept, hu] at hc
    cases hc
    exact (he.session h).finish _
  | coreReset => cases hc; exact SessionInv.finish (by exact h) _
  | coreResetTo pc a => cases hc; exact SessionInv.finish (by exact h) _
  | coreRunSubroutine e a =>
    cases hc
    rw [startCall_eq]
    exact SessionInv.sequencerInv (by exact h) trivial

/-- An instruction inside a routine moves nothing but the count of its cycles. -/
theorem SequencerInv.run (h : SequencerInv s) {caller : CallReturn} {total total' : Nat}
    (hp : s.phase = .call caller total) {t : State} (he : CoreEffect s t) :
    SequencerInv { t with phase := .call caller total' } := by
  obtain ⟨hplay, hpos, htrack, hnull, hinv⟩ := h
  rw [hp] at hpos hnull hinv
  rw [he.1]
  refine ⟨hplay, fun hr hb => hpos hr ?_, htrack, fun hn => (hnull hn).imp_right (.imp_right ?_), ?_⟩
  · exact hb.imp nofun fun ⟨_, hb⟩ => ⟨total, by cases hb; rfl⟩
  · exact fun ⟨_, hinit⟩ => ⟨total', by cases hinit; rfl⟩
  · cases caller with
    | play frameCaller => cases frameCaller <;> exact hinv
    | _ => exact hinv

end

end Sys2Proof.Machine

namespace Sys2Proof.Proofs.SequencerFamily
open Sys2Proof.Machine

/-- Settles O18, by the move the step is. -/
theorem stepKeepsSequencerInv : Obligations.StepKeepsSequencerInv := by
  unfold Obligations.StepKeepsSequencerInv
  intro s t hs hstep
  rcases machineStep_cases hstep with ⟨-, -, rfl⟩ | ⟨c, rest, hp, -, hacc⟩ | ⟨caller, total, hp, -, rfl⟩ |
    ⟨caller, total, u, hp, -, he, rfl⟩ | ⟨remaining, total, offset, hp, rfl⟩
  · exact hs
  · exact SessionInv.accept (by exact hs.session (.inl hp)) hacc
  · exact hs.resume hp
  · exact hs.run hp he
  · exact hs.fillTurn hp

end Sys2Proof.Proofs.SequencerFamily
end

section
/-! What turns `ready` on, `finished` off, or the counter to null: one reading of every step, from which R262 and
R285 (b) follow. -/

namespace Sys2Proof.Machine

/-- A move that starts no playback: it sets `ready` nowhere, clears `finished` nowhere, and nulls the counter only of a
session that is finished. -/
def NoStart (s t : State) : Prop :=
  (t.ready = true → s.ready = true) ∧ (s.finished = true → t.finished = true) ∧
  (t.samplesToNextFrame = none → s.samplesToNextFrame = none ∨ t.finished = true)

section
variable {s t u : State}

theorem noStart_of_same (hr : t.ready = s.ready) (hf : t.finished = s.finished)
    (hc : t.samplesToNextFrame = s.samplesToNextFrame) : NoStart s t :=
  ⟨hr ▸ id, hf ▸ id, hc ▸ .inl⟩

theorem NoStart.trans (h : NoStart s t) (h' : NoStart t u) : NoStart s u := by
  obtain ⟨hr, hf, hc⟩ := h
  obtain ⟨hr', hf', hc'⟩ := h'
  refine ⟨hr ∘ hr', hf' ∘ hf, fun hnull => ?_⟩
  rcases hc' hnull with htnull | hfin
  · exact (hc htnull).imp_right hf'
  · exact .inr hfin

/-! ### The parts of a command -/

theorem changeTrack_noStart (n : Int) (s : State) : NoStart s (changeTrack n s) := by
  rcases changeTrack_cases n s with he | ⟨-, -, he⟩
  · rw [he]
    exact noStart_of_same rfl rfl rfl
  · rw [he, startCall_eq]
    exact ⟨nofun, id, .inl⟩

theorem changeTrack_samplesToNextFrame (n : Int) (s : State) :
    (changeTrack n s).samplesToNextFrame = s.samplesToNextFrame := by
  rcases changeTrack_cases n s with he | ⟨-, -, he⟩
  · rw [he]
    rfl
  · rw [he, startCall_samplesToNextFrame]

theorem stepTrack_noStart (d : Int) (s : State) : NoStart s (stepTrack d s) := by
  rcases stepTrack_cases d s with he | ⟨n, he⟩
  · rw [he]
    exact noStart_of_same rfl rfl rfl
  · rw [he]
    exact changeTrack_noStart n s

theorem loadTail_noStart (s : State) : NoStart s (loadTail s) := by
  rw [loadTail, memWrite_volume]
  exact changeTrack_noStart _ { s with chip := s.chip ++ [.poke 24 15] }

theorem loadTail_samplesToNextFrame (s : State) : (loadTail s).samplesToNextFrame = s.samplesToNextFrame := by
  rw [loadTail, changeTrack_samplesToNextFrame, memWrite_samplesToNextFrame]

/-- R263: a load clears `ready` and leaves the counter as the session before had it, null included. -/
theorem load_ready_counter (image : Memory) (initAddr playAddr : Word) (startTrack subsongCount speedFlag : Byte)
    (s : State) :
    (load image initAddr playAddr startTrack subsongCount speedFlag s).ready = false ∧
    (load image initAddr playAddr startTrack subsongCount speedFlag s).samplesToNextFrame = s.samplesToNextFrame := by
  unfold load
  split
  · simp
  · obtain ⟨hr, -, -⟩ := loadTail_noStart { s with
      mem := image, initAddr := initAddr, playAddr := playAddr, startTrack := startTrack
      subsongCount := subsongCount, speedFlag := speedFlag, loaded := true, ready := false, finished := false
      trackWritten := false }
    exact ⟨Bool.eq_false_iff.2 fun h => (nomatch hr h), loadTail_samplesToNextFrame _⟩

theorem terminalFrame_noStart (s : State) : NoStart s (terminalFrame s) := by
  rw [terminalFrame_eq]
  exact ⟨id, fun _ => rfl, fun _ => .inr rfl⟩

theorem frameDone_noStart {caller : FrameCaller} (hc : caller ≠ .changeTrack) (s : State) :
    NoStart s (frameDone caller s) := by
  cases caller with
  | changeTrack => exact absurd rfl hc
  | host | fill => exact noStart_of_same rfl rfl rfl

theorem advanceFrame_noStart {caller : FrameCaller} (hc : caller ≠ .changeTrack) (s : State) :
    NoStart s (advanceFrame caller s) := by
  rcases advanceFrame_cases caller s with ⟨-, he⟩ | ⟨-, -, he⟩ | ⟨-, -, he⟩
  · rw [he]
    exact frameDone_noStart hc s
  · rw [he, startCall_eq]
    exact noStart_of_same rfl rfl rfl
  · rw [he]
    exact (terminalFrame_noStart s).trans (frameDone_noStart hc _)

theorem accountFrame_noStart (s : State) : NoStart s (accountFrame s) := by
  have hnull (h : (accountFrame s).samplesToNextFrame = none) := accountFrame_null h
  rw [accountFrame_sameRest]
  exact ⟨id, id, (.inl <| hnull ·)⟩

theorem fill_noStart (sampleCount offset : Nat) (s : State) : NoStart s (fill sampleCount offset s) := by
  unfold fill
  split <;> exact noStart_of_same rfl rfl rfl

theorem fillDone_noStart (total : Nat) (s : State) : NoStart s (fillDone total s) := by
  unfold fillDone
  split
  · exact ⟨nofun, fun _ => rfl, .inl⟩
  · exact noStart_of_same rfl rfl rfl

theorem finalSegment_noStart (remaining total offset : Nat) (s : State) :
    NoStart s (finalSegment remaining total offset s) := by
  by_cases hr : remaining = 0
  · rw [finalSegment, if_pos hr]
    exact fillDone_noStart ..
  · rw [finalSegment_pos hr]
    refine .trans ?_ (fillDone_noStart ..)
    exact ⟨id, id, (.inl <| Option.map_eq_none_iff.1 ·)⟩

theorem boundarySegment_noStart (k remaining total offset : Nat) (s : State) :
    NoStart s (boundarySegment k remaining total offset s) := by
  by_cases hk : k = 0
  · rw [boundarySegment, if_pos hk]
    exact advanceFrame_noStart (by nofun) s
  · rw [boundarySegment_pos hk]
    refine .trans ?_ (advanceFrame_noStart (by nofun) _)
    exact ⟨id, id, nofun⟩

theorem fillTurn_noStart (remaining total offset : Nat) (s : State) :
    NoStart s (fillTurn remaining total offset s) := by
  unfold fillTurn
  split
  · split
    · exact boundarySegment_noStart ..
    · exact finalSegment_noStart ..
  · exact finalSegment_noStart ..

theorem CoreEffect.noStart (h : CoreEffect s t) : NoStart s t := by
  rw [h.1]
  exact noStart_of_same rfl rfl rfl

/-! ### The step -/

/-- What a step is to playback (R262, R285). -/
inductive PlaybackMove (s t : State) : Prop where
  /-- It starts nothing. -/
  | none (h : NoStart s t)
  /-- A load is accepted (R263). -/
  | load (hload : s.acceptsLoad = true) (hr : t.ready = false) (hc : t.samplesToNextFrame = s.samplesToNextFrame)
  /-- The init routine of a `changeTrack` has returned (R266). -/
  | selected (total : Nat) (hp : s.phase = .call .trackInit total) (hpc : s.pc ≤ 1) (hr : t.ready = false)
      (hc : t.samplesToNextFrame ≠ Option.none)
  /-- The priming frame of a `changeTrack` is done (R266). -/
  | primed (total : Nat) (hp : s.phase = .call (.play .changeTrack) total) (hpc : s.pc ≤ 1)
      (hf : t.finished = s.finished)
      (hc : t.samplesToNextFrame = Option.none → s.samplesToNextFrame = Option.none)

/-- A command starts nothing, or it is a load. -/
theorem accept_noStart {c : HostCommand} (h : accept c s = .next t) :
    NoStart s t ∨
    (∃ image ia pa st sc sf, c = .load image ia pa st sc sf) ∧ t.ready = false ∧
      t.samplesToNextFrame = s.samplesToNextFrame := by
  cases c with
  | load image ia pa st sc sf =>
    simp only [accept] at h
    split at h
    · cases h
      exact .inr ⟨⟨image, ia, pa, st, sc, sf, rfl⟩, load_ready_counter ..⟩
    · cases h
  | changeTrack n => cases h; exact .inl (changeTrack_noStart n s)
  | nextTrack => cases h; exact .inl (stepTrack_noStart 1 s)
  | prevTrack => cases h; exact .inl (stepTrack_noStart (-1) s)
  | stop => cases h; exact .inl ⟨nofun, id, .inl⟩
  | advanceFrame => cases h; exact .inl (advanceFrame_noStart (by nofun) s)
  | fill n offset => cases h; exact .inl (fill_noStart n offset s)
  | coreStep =>
    obtain ⟨u, hu, he⟩ := coreStep_effect s
    simp only [accept, hu] at h
    cases h
    exact .inl he.noStart
  | coreReset | coreResetTo => cases h; exact .inl (noStart_of_same rfl rfl rfl)
  | coreRunSubroutine e a =>
    cases h
    rw [startCall_eq]
    exact .inl (noStart_of_same rfl rfl rfl)

/-- A routine that returns to its caller. -/
theorem SequencerInv.resume_playbackMove (h : SequencerInv s) {caller : CallReturn} {total : Nat}
    (hp : s.phase = .call caller total) (hpc : s.pc ≤ 1) : PlaybackMove s (Machine.resume caller total s) := by
  match caller with
  | .bench => exact .none (noStart_of_same rfl rfl rfl)
  | .loadVector => exact .none (loadTail_noStart { s with playAddr := memRead16 s 0x0314 0x0315 })
  | .trackInit =>
    obtain ⟨hl, hr, -⟩ : s.loaded = true ∧ s.ready = false ∧ s.trackWritten = true ∧ s.currentTrack ≤ s.subsongCount :=
      h.phase_inv_of hp
    rw [Machine.resume, trackInitDone_eq hl, startCall_eq]
    exact .selected total hp hpc hr nofun
  | .play .host => exact .none ((accountFrame_noStart s).trans (frameDone_noStart (by nofun) _))
  | .play .changeTrack =>
    refine .primed total hp hpc ?_ (accountFrame_null (s := s))
    rw [Machine.resume, accountFrame_sameRest]
    rfl
  | .play (.fill ..) => exact .none ((accountFrame_noStart s).trans (frameDone_noStart (by nofun) _))

theorem SequencerInv.playbackMove (h : SequencerInv s) (hstep : step s = .next t) : PlaybackMove s t := by
  rcases machineStep_cases hstep with ⟨-, -, rfl⟩ | ⟨c, rest, hp, hc, hacc⟩ | ⟨caller, total, hp, hpc, rfl⟩ |
    ⟨caller, total, u, -, -, he, rfl⟩ | ⟨remaining, total, offset, -, rfl⟩
  · exact .none (noStart_of_same rfl rfl rfl)
  · rcases accept_noStart hacc with hn | ⟨⟨image, ia, pa, st, sc, sf, rfl⟩, hr, hcounter⟩
    · exact .none hn
    · exact .load (by simp [State.acceptsLoad, hp, hc]) hr hcounter
  · exact h.resume_playbackMove hp hpc
  · exact .none he.noStart
  · exact .none (fillTurn_noStart ..)

end

end Sys2Proof.Machine

namespace Sys2Proof.Proofs.SequencerFamily
open Sys2Proof.Machine

/-- Settles O19: only the last of the four moves sets `ready`, and only the two in the middle clear `finished`. -/
theorem onlyTrackSelectionStartsPlayback : Obligations.OnlyTrackSelectionStartsPlayback := by
  unfold Obligations.OnlyTrackSelectionStartsPlayback
  intro s t hs hstep
  cases hs.playbackMove hstep with
  | none h =>
    obtain ⟨hr, hf, -⟩ := h
    exact ⟨fun hsr htr => absurd (hr htr) (by simp [hsr]), fun hsf htf => absurd (hf hsf) (by simp [htf])⟩
  | load hload hr => exact ⟨fun _ htr => by simp [hr] at htr, fun _ _ => .inl hload⟩
  | selected total hp hpc hr => exact ⟨fun _ htr => by simp [hr] at htr, fun _ _ => .inr ⟨hpc, total, hp⟩⟩
  | primed total hp hpc hf => exact ⟨fun _ _ => ⟨hpc, total, hp⟩, fun hsf htf => by simp [hf, hsf] at htf⟩

/-- Settles O60: a step that nulls the counter ends the session or found the null; a ready session has none. -/
theorem nullCounterMeansFinished : Obligations.NullCounterMeansFinished := by
  unfold Obligations.NullCounterMeansFinished
  intro s t hs hstep
  refine ⟨fun hfin hnull => ?_, fun hnull _ n offset cs hp hc => ?_⟩
  · cases hs.playbackMove hstep with
    | none h =>
      obtain ⟨-, hf, hc⟩ := h
      exact .inl ((hc hnull).elim (hf <| hfin ·) id)
    | load hload hr hc =>
      have hsnull := hc ▸ hnull
      exact .inr ⟨hload, hsnull, hfin hsnull, hr⟩
    | selected _ _ _ _ hc => exact absurd hnull hc
    | primed _ _ _ hf hc => exact .inl (hf.trans (hfin (hc hnull)))
  · have hr : s.ready = false := by
      refine Bool.eq_false_iff.2 fun hr => ?_
      obtain ⟨-, -, hcounter, -⟩ := hs.ready_playable hr
      exact hcounter hnull
    rw [step_idle hp hc, accept, fill_stopped (by exact hr)] at hstep
    cases hstep
    simp [finish, hp]

end Sys2Proof.Proofs.SequencerFamily
end

section
/-! What the host sees of a step: one command at a time, and one reply for each (R260); and that no step but the load of
no image is refused (R300). -/

namespace Sys2Proof.Machine

/-- `t` is reached from `s` inside a command: the parameters and the commands to come are as they were, transactions are
only appended, and either the command goes on and has not replied, or it has ended with one reply. -/
def CommandMove (s t : State) : Prop :=
  t.cfg = s.cfg ∧ t.commands = s.commands ∧ (∃ es, t.chip = s.chip ++ es) ∧
  (t.phase ≠ .idle ∧ t.replies = s.replies ∨ t.phase = .idle ∧ ∃ r, t.replies = s.replies ++ [r])

section
variable {s t : State}

/-- The move may have begun with transactions. -/
theorem CommandMove.after {u : State} {es : List ChipEvent} (h : CommandMove u t) (hcfg : u.cfg = s.cfg)
    (hcommands : u.commands = s.commands) (hreplies : u.replies = s.replies) (hchip : u.chip = s.chip ++ es) :
    CommandMove s t := by
  obtain ⟨hcfg', hcommands', ⟨es', hchip'⟩, hreply⟩ := h
  rw [hreplies] at hreply
  rw [hchip, List.append_assoc] at hchip'
  exact ⟨hcfg'.trans hcfg, hcommands'.trans hcommands, ⟨_, hchip'⟩, hreply⟩

theorem finish_commandMove (r : Reply) (s : State) : CommandMove s (finish r s) :=
  ⟨rfl, rfl, ⟨[], (List.append_nil _).symm⟩, .inr ⟨rfl, r, rfl⟩⟩

theorem startCall_commandMove (caller : CallReturn) (entry : Word) (a : Byte) (s : State) :
    CommandMove s (startCall caller entry a s) := by
  rw [startCall_eq]
  exact ⟨rfl, rfl, ⟨[], (List.append_nil _).symm⟩, .inl ⟨nofun, rfl⟩⟩

theorem filling_commandMove (remaining total offset : Nat) (s : State) :
    CommandMove s { s with phase := .filling remaining total offset } :=
  ⟨rfl, rfl, ⟨[], (List.append_nil _).symm⟩, .inl ⟨nofun, rfl⟩⟩

/-! ### The parts of a command -/

theorem changeTrack_commandMove (n : Int) (s : State) : CommandMove s (changeTrack n s) := by
  rcases changeTrack_cases n s with he | ⟨-, -, he⟩ <;> rw [he]
  · exact finish_commandMove ..
  · exact startCall_commandMove .trackInit _ _
      { s with ready := false, currentTrack := BitVec.ofInt 8 n, trackWritten := true }

theorem stepTrack_commandMove (d : Int) (s : State) : CommandMove s (stepTrack d s) := by
  rcases stepTrack_cases d s with he | ⟨n, he⟩ <;> rw [he]
  · exact finish_commandMove ..
  · exact changeTrack_commandMove ..

theorem loadTail_commandMove (s : State) : CommandMove s (loadTail s) := by
  rw [loadTail, memWrite_volume]
  exact (changeTrack_commandMove ..).after rfl rfl rfl rfl

theorem load_commandMove (image : Memory) (initAddr playAddr : Word) (startTrack subsongCount speedFlag : Byte)
    (s : State) : CommandMove s (load image initAddr playAddr startTrack subsongCount speedFlag s) := by
  unfold load
  split
  · rw [startCall_eq]
    exact ⟨rfl, rfl, ⟨[], (List.append_nil _).symm⟩, .inl ⟨nofun, rfl⟩⟩
  · exact loadTail_commandMove { s with
      mem := image, initAddr := initAddr, playAddr := playAddr, startTrack := startTrack
      subsongCount := subsongCount, speedFlag := speedFlag, loaded := true, ready := false, finished := false
      trackWritten := false }

theorem frameDone_commandMove (caller : FrameCaller) (s : State) : CommandMove s (frameDone caller s) := by
  cases caller with
  | host => exact finish_commandMove ..
  | changeTrack => exact finish_commandMove .completed { s with ready := true }
  | fill => exact filling_commandMove ..

theorem advanceFrame_commandMove (caller : FrameCaller) (s : State) : CommandMove s (advanceFrame caller s) := by
  rcases advanceFrame_cases caller s with ⟨-, he⟩ | ⟨-, -, he⟩ | ⟨-, -, he⟩ <;> rw [he]
  · exact frameDone_commandMove ..
  · exact startCall_commandMove ..
  · rw [terminalFrame_eq]
    exact (frameDone_commandMove ..).after rfl rfl rfl rfl

theorem fill_commandMove (sampleCount offset : Nat) (s : State) : CommandMove s (fill sampleCount offset s) := by
  unfold fill
  split
  · exact finish_commandMove ..
  · exact filling_commandMove ..

theorem fillDone_commandMove (total : Nat) (s : State) : CommandMove s (fillDone total s) := by
  rw [fillDone_eq]
  exact finish_commandMove (.samples total) _

theorem finalSegment_commandMove (remaining total offset : Nat) (s : State) :
    CommandMove s (finalSegment remaining total offset s) := by
  by_cases hr : remaining = 0
  · rw [finalSegment, if_pos hr]
    exact fillDone_commandMove ..
  · rw [finalSegment_pos hr]
    exact (fillDone_commandMove ..).after rfl rfl rfl rfl

theorem boundarySegment_commandMove (k remaining total offset : Nat) (s : State) :
    CommandMove s (boundarySegment k remaining total offset s) := by
  by_cases hk : k = 0
  · rw [boundarySegment, if_pos hk]
    exact advanceFrame_commandMove ..
  · rw [boundarySegment_pos hk]
    exact (advanceFrame_commandMove ..).after rfl rfl rfl rfl

theorem fillTurn_commandMove (remaining total offset : Nat) (s : State) :
    CommandMove s (fillTurn remaining total offset s) := by
  unfold fillTurn
  split
  · split
    · exact boundarySegment_commandMove ..
    · exact finalSegment_commandMove ..
  · exact finalSegment_commandMove ..

theorem resume_commandMove (caller : CallReturn) (total : Nat) (s : State) :
    CommandMove s (resume caller total s) := by
  cases caller with
  | bench => exact finish_commandMove ..
  | loadVector => exact loadTail_commandMove { s with playAddr := memRead16 s 0x0314 0x0315 }
  | trackInit => exact advanceFrame_commandMove .changeTrack { s with finished := false, samplesToNextFrame := some 0 }
  | play frameCaller =>
    have hmove := frameDone_commandMove frameCaller (accountFrame s)
    rw [resume]
    rw [accountFrame_sameRest] at hmove ⊢
    exact hmove

/-! ### The step -/

/-- An instruction emits nothing, or what one write into the chip window emits (R53). -/
theorem CoreEffect.emits (h : CoreEffect s t) :
    t.chip = s.chip ∨ ∃ c b, inChipWindow c = true ∧ t.chip = s.chip ++ chipWrite c b := by
  cases h.2 with
  | nothing _ hc => exact .inl hc
  | byte c b _ hc =>
    rcases memWrite_cases c b s with ⟨hw, -, hchip⟩ | ⟨-, -, hchip⟩
    · exact .inr ⟨c, b, hw, hc.trans hchip⟩
    · exact .inl (hc.trans hchip)
  | pair _ _ _ _ hc => exact .inl hc

theorem CoreEffect.chip_append (h : CoreEffect s t) : ∃ es, t.chip = s.chip ++ es := by
  rcases h.emits with hc | ⟨c, b, -, hc⟩
  · exact ⟨[], hc.trans (List.append_nil _).symm⟩
  · exact ⟨_, hc⟩

/-- An instruction inside a routine. -/
theorem CoreEffect.commandMove (h : CoreEffect s t) (caller : CallReturn) (total : Nat) :
    CommandMove s { t with phase := .call caller total } := by
  have hchip := h.chip_append
  rw [h.1]
  exact ⟨rfl, rfl, hchip, .inl ⟨nofun, rfl⟩⟩

/-- An instruction that is a command of its own. -/
theorem CoreEffect.finish_commandMove (h : CoreEffect s t) (r : Reply) : CommandMove s (finish r t) := by
  have hchip := h.chip_append
  rw [h.1]
  exact ⟨rfl, rfl, hchip, .inr ⟨rfl, r, rfl⟩⟩

theorem accept_commandMove {c : HostCommand} (h : accept c s = .next t) : CommandMove s t := by
  cases c with
  | load image ia pa st sc sf =>
    simp only [accept] at h
    split at h
    · cases h
      exact load_commandMove ..
    · cases h
  | changeTrack n => cases h; exact changeTrack_commandMove n s
  | nextTrack => cases h; exact stepTrack_commandMove 1 s
  | prevTrack => cases h; exact stepTrack_commandMove (-1) s
  | stop => cases h; exact finish_commandMove .completed { s with ready := false }
  | advanceFrame => cases h; exact advanceFrame_commandMove .host s
  | fill n offset => cases h; exact fill_commandMove n offset s
  | coreStep =>
    obtain ⟨u, hu, he⟩ := coreStep_effect s
    simp only [accept, hu] at h
    cases h
    exact he.finish_commandMove _
  | coreReset => cases h; exact finish_commandMove .completed (coreReset s)
  | coreResetTo pc a => cases h; exact finish_commandMove .completed (coreResetTo _ _ s)
  | coreRunSubroutine e a => cases h; exact startCall_commandMove ..

/-- What a step is to the host: nothing, a command taken, or a move of the command in progress. -/
theorem step_commandMove (h : step s = .next t) :
    (s.phase = .idle ∧ s.commands = [] ∧ t = s) ∨
    (∃ c rest, s.phase = .idle ∧ s.commands = c :: rest ∧ CommandMove { s with commands := rest } t) ∨
    s.phase ≠ .idle ∧ CommandMove s t := by
  rcases machineStep_cases h with hnothing | ⟨c, rest, hp, hc, hacc⟩ | ⟨caller, total, hp, -, rfl⟩ |
    ⟨caller, total, u, hp, -, he, rfl⟩ | ⟨remaining, total, offset, hp, rfl⟩
  · exact .inl hnothing
  · exact .inr (.inl ⟨c, rest, hp, hc, accept_commandMove hacc⟩)
  · exact .inr (.inr ⟨by simp [hp], resume_commandMove ..⟩)
  · exact .inr (.inr ⟨by simp [hp], he.commandMove ..⟩)
  · exact .inr (.inr ⟨by simp [hp], fillTurn_commandMove ..⟩)

/-- A command that a step leaves idle has replied once, any other not. -/
theorem CommandMove.reply (h : CommandMove s t) :
    (t.phase = .idle → ∃ r, t.replies = s.replies ++ [r]) ∧ (t.phase ≠ .idle → t.replies = s.replies) := by
  obtain ⟨-, -, -, ⟨hp, hr⟩ | ⟨hp, hr⟩⟩ := h
  · exact ⟨fun h => absurd h hp, fun _ => hr⟩
  · exact ⟨fun _ => hr, fun h => absurd hp h⟩

end

end Sys2Proof.Machine

namespace Sys2Proof.Proofs.SequencerFamily
open Sys2Proof.Machine

/-- Settles O20, by what the step is to the host. -/
theorem commandsOneAtATime : Obligations.CommandsOneAtATime := by
  unfold Obligations.CommandsOneAtATime
  intro s t hstep
  rcases step_commandMove hstep with ⟨hp, hc, rfl⟩ | ⟨c, rest, hp, hc, hmove⟩ | ⟨hp, hmove⟩
  · simp [hp, hc]
  · obtain ⟨hends, hgoes⟩ := hmove.reply
    obtain ⟨hcfg, hcommands, hchip, -⟩ := hmove
    exact ⟨hcfg, hchip, fun _ => hends, by simpa [hc] using hgoes, fun h => absurd hp h, by simp [hc],
      by simp [hc, hcommands]⟩
  · obtain ⟨hends, hgoes⟩ := hmove.reply
    obtain ⟨hcfg, hcommands, hchip, -⟩ := hmove
    exact ⟨hcfg, hchip, fun _ => hends, by simpa [hp] using hgoes, fun _ => hcommands, fun h => absurd h hp,
      fun _ _ h => absurd h hp⟩

end Sys2Proof.Proofs.SequencerFamily

namespace Sys2Proof.Proofs.ExceptionFamily
open Sys2Proof.Machine

/-- Settles O7: every phase but the acceptance of a command answers a next state, and of the commands only the load of
no image does not. -/
theorem blockNeverFaults : Obligations.BlockNeverFaults := by
  unfold Obligations.BlockNeverFaults
  intro s
  cases hp : s.phase with
  | idle =>
    cases hc : s.commands with
    | nil => exact .inr ⟨⟨s, step_nothing hp hc⟩, nofun⟩
    | cons c rest =>
      rw [step_idle hp hc]
      rcases accept_total { s with commands := rest } c with ⟨t, ht⟩ | ⟨href, image, ia, pa, st, sc, sf, rfl, hwf⟩
      · refine .inr ⟨⟨t, ht⟩, fun image ia pa st sc sf cs _ hload => ?_⟩
        cases hload
        by_contra hwf
        rw [accept, if_neg hwf] at ht
        cases ht
      · exact .inl ⟨image, ia, pa, st, sc, sf, rest, rfl, rfl, hwf, href⟩
  | call caller total =>
    refine .inr ⟨?_, nofun⟩
    by_cases hpc : s.pc ≤ 1
    · exact ⟨_, step_return hp hpc⟩
    · obtain ⟨t, ht, -⟩ := coreStep_effect s
      exact ⟨_, step_run hp hpc ht⟩
  | filling => exact .inr ⟨⟨_, step_filling hp⟩, nofun⟩

end Sys2Proof.Proofs.ExceptionFamily
end

section
/-! The obligations of spec/48_run_subroutine.md: `Step`, `reset`, `resetTo` and `runSubroutine`. -/

namespace Sys2Proof.Machine
open Sys2Proof.Claims

/-! ### `Step` -/

/-- What the three bytes at `PC` decode to is what the core fetches (R65, R81). -/
theorem fetch_of_decode {s : State} {i : Instr} {rest : List Byte}
    (h : decode [memRead s s.pc, memRead s (s.pc + 1), memRead s (s.pc + 2)] = .ok (i, rest)) : fetch s = i := by
  obtain ⟨rest', hthree⟩ := decode_three (memRead s s.pc) (memRead s (s.pc + 1)) (memRead s (s.pc + 2)) []
  rw [h] at hthree
  cases hthree
  rfl

/-! ### `runSubroutine` -/

/-- R243: the two sentinel bytes are at `0x01FF` and `0x01FE`. -/
theorem memRead_startCall {s : State} (hs : MemoryInv s) (caller : CallReturn) (entry : Word) (a : Byte) (c : Word) :
    memRead (startCall caller entry a s) c = if c = 0x01FE ∨ c = 0x01FF then 0 else memRead s c := by
  have hmem : (startCall caller entry a s).mem = (memWrite 0x01FE 0 (memWrite 0x01FF 0 s)).mem := startCall_mem ..
  have hfe : inChipWindow 0x01FE = false := rfl
  have hff : inChipWindow 0x01FF = false := rfl
  rw [memRead, hmem, ← memRead, memRead_memWrite (memWrite_memoryInv hs ..), memRead_memWrite hs, ite_or]
  simp only [hfe, hff, true_and]

theorem startCall_enteredRoutine {s : State} (hs : MemoryInv s) (caller : CallReturn) (entry : Word) (a : Byte) :
    EnteredRoutine entry a caller s (startCall caller entry a s) :=
  ⟨startCall_eq s caller entry a, memRead_startCall hs caller entry a⟩

/-- `u16` and `u8` are the remainder modulo `2 ^ n`, of negative integers too (D25). -/
theorem ofInt_toNat_eq_emod (n : Nat) (k : Int) : ((BitVec.ofInt n k).toNat : Int) = k % (2 ^ n : Nat) := by
  rw [BitVec.toNat_ofInt]
  exact Int.toNat_of_nonneg (Int.emod_nonneg k (Int.natCast_ne_zero.2 (Nat.two_pow_pos n).ne'))

end Sys2Proof.Machine

namespace Sys2Proof.Proofs.RunSubroutineFamily
open Sys2Proof.Machine

/-- Settles O6: the core fetches what the bytes decode to. -/
theorem stepRunsTheDecodedInstruction : Obligations.StepRunsTheDecodedInstruction := by
  unfold Obligations.StepRunsTheDecodedInstruction
  intro s i rest hdecode
  have hfetch := fetch_of_decode hdecode
  refine ⟨fun caller total t hp hpc hexec => ?_, fun cs t hp hc hexec => ?_⟩
  · have hcore : coreStep s = .next t := by rw [coreStep, hfetch, hexec]
    exact step_run hp (BitVec.not_le.2 hpc) hcore
  · have hcore : coreStep { s with commands := cs } = .next t := by
      rw [coreStep, ← hexec, ← hfetch]
      rfl
    have hreplies : t.replies = s.replies := by
      obtain ⟨hrest, -⟩ := exec_next hexec
      rw [hrest]
    rw [step_idle hp hc, accept, hcore, ← hreplies]
    rfl

/-- Settles O8: of all an instruction can do, its frame. -/
theorem everyInstructionCompletes : Obligations.EveryInstructionCompletes := by
  unfold Obligations.EveryInstructionCompletes
  intro i s
  obtain ⟨t, ht, hrest, -⟩ := exec_effect i s
  exact ⟨t, ht, hrest⟩

/-- Settles O21: both commands are one update of the registers and a reply; the arguments are reduced where the command
is accepted. -/
theorem coreResetEntryPoints : Obligations.CoreResetEntryPoints := by
  unfold Obligations.CoreResetEntryPoints
  intro s cs hp
  refine ⟨fun hc => (step_reply hp hc rfl hp).trans rfl, fun pc a hc => ⟨_, step_reply hp hc rfl hp, ?_, ?_, rfl⟩⟩
  · exact ofInt_toNat_eq_emod 16 pc
  · exact ofInt_toNat_eq_emod 8 a

/-- Settles O22: a call sets the registers and writes the two sentinel bytes, whoever makes it. -/
theorem runSubroutine : Obligations.RunSubroutine := by
  unfold Obligations.RunSubroutine
  intro s hs
  refine ⟨startCall_enteredRoutine hs, fun cs entry a hp hc => ?_, fun total hp hpc => step_return hp ?_⟩
  · exact ⟨_, step_idle hp hc, startCall_enteredRoutine (s := { s with commands := cs }) hs ..⟩
  · exact BitVec.le_def.2 hpc

end Sys2Proof.Proofs.RunSubroutineFamily
end

section
/-! What an instruction depends on: two states with the same registers, `Mem` and parameters run alike (R240); and what
it may emit (R53, R61). -/

namespace Sys2Proof.Machine

/-! ### Two states that run alike -/

/-- `s'` and `t'` are reached from `s` and `t` alike: they cannot be told apart by the next instruction, have been
charged the same cycles, and the same transactions have been emitted on the way. -/
def RunsAlike (s t s' t' : State) : Prop :=
  SameCore s' t' ∧ t'.cyc = s'.cyc ∧ ∃ es, s'.chip = s.chip ++ es ∧ t'.chip = t.chip ++ es

/-- `u` with everything an instruction looks at taken from `s` (R240). -/
def State.withCore (u s : State) : State :=
  { u with a := s.a, x := s.x, y := s.y, sp := s.sp, p := s.p, pc := s.pc, mem := s.mem, cfg := s.cfg }

theorem SameCore.eq_withCore {s t : State} (h : SameCore s t) : t = t.withCore s := by
  obtain ⟨ha, hx, hy, hsp, hp, hpc, hmem, hcfg⟩ := h
  rw [State.withCore, ← ha, ← hx, ← hy, ← hsp, ← hp, ← hpc, ← hmem, ← hcfg]

section
variable {s t s' t' : State}

/-- Where nothing is written, the registers and the charge decide. -/
theorem SameCore.runsAlike (h : SameCore s' t') (hcyc : t'.cyc = s'.cyc) (hs : s'.chip = s.chip)
    (ht : t'.chip = t.chip) : RunsAlike s t s' t' :=
  ⟨h, hcyc, [], hs.trans (List.append_nil _).symm, ht.trans (List.append_nil _).symm⟩

namespace RunsAlike
variable (h : RunsAlike s t s' t')
include h

theorem memWrite (c : Word) (b : Byte) : RunsAlike s t (memWrite c b s') (memWrite c b t') := by
  obtain ⟨⟨ha, hx, hy, hsp, hp, hpc, hmem, hcfg⟩, hcyc, es, hs, ht⟩ := h
  cases hw : inChipWindow c with
  | true =>
    rw [memWrite_window hw, memWrite_window hw]
    refine ⟨⟨ha, hx, hy, hsp, hp, hpc, hmem, hcfg⟩, hcyc, es ++ chipWrite c b, ?_, ?_⟩
    · rw [State.emit_chip, hs, List.append_assoc]
    · rw [State.emit_chip, ht, List.append_assoc]
  | false =>
    rw [memWrite_plain hw, memWrite_plain hw, hmem]
    exact ⟨⟨ha, hx, hy, hsp, hp, hpc, rfl, hcfg⟩, hcyc, es, hs, ht⟩

theorem push (v : Byte) : RunsAlike s t (push v s') (push v t') := by
  obtain ⟨⟨-, -, -, hsp, -⟩, -⟩ := id h
  obtain ⟨⟨ha, hx, hy, -, hp, hpc, hmem, hcfg⟩, hcyc, hchip⟩ := h.memWrite (stackAddr s'.sp) v
  rw [Machine.push, Machine.push, hsp]
  exact ⟨⟨ha, hx, hy, rfl, hp, hpc, hmem, hcfg⟩, hcyc, hchip⟩

theorem setP (v : Byte) : RunsAlike s t (s'.setP v) (t'.setP v) := by
  obtain ⟨⟨ha, hx, hy, hsp, -, hpc, hmem, hcfg⟩, hcyc, hchip⟩ := h
  exact ⟨⟨ha, hx, hy, hsp, rfl, hpc, hmem, hcfg⟩, hcyc, hchip⟩

theorem setPc (v : Word) : RunsAlike s t (s'.setPc v) (t'.setPc v) := by
  obtain ⟨⟨ha, hx, hy, hsp, hp, -, hmem, hcfg⟩, hcyc, hchip⟩ := h
  exact ⟨⟨ha, hx, hy, hsp, hp, rfl, hmem, hcfg⟩, hcyc, hchip⟩

end RunsAlike

end

/-! ### By class -/

section
variable {mn : Mnemonic} (s u : State)

/-- The fetch and the charge of any instruction. -/
theorem advance_runsAlike (len cycles : Nat) :
    RunsAlike s (u.withCore s) (s.advance len cycles) ((u.withCore s).advance len cycles) :=
  SameCore.runsAlike ⟨rfl, rfl, rfl, rfl, rfl, rfl, rfl, rfl⟩ rfl rfl rfl

theorem readEffect_runsAlike {m : ReadMode} (h : (Form.read mn m).inTable = true) :
    RunsAlike s (u.withCore s) (readEffect mn m s) (readEffect mn m (u.withCore s)) := by
  cases mn with
  | LDA | LDX | LDY | ADC | SBC | CMP | CPX | CPY | AND | ORA | EOR | BIT =>
    exact SameCore.runsAlike ⟨rfl, rfl, rfl, rfl, rfl, rfl, rfl, rfl⟩ rfl rfl rfl
  | _ => cases h

theorem storeEffect_runsAlike {m : MemMode} (h : (Form.store mn m).inTable = true) :
    RunsAlike s (u.withCore s) (storeEffect mn m s) (storeEffect mn m (u.withCore s)) := by
  cases mn with
  | STA | STX | STY => exact (advance_runsAlike ..).memWrite ..
  | _ => cases h

theorem rmw_runsAlike (m : RmwMode) (base : Nat) (f : Byte → Byte → Byte × Byte) :
    RunsAlike s (u.withCore s) (rmw m base f s) (rmw m base f (u.withCore s)) := by
  cases m with
  | acc => exact SameCore.runsAlike ⟨rfl, rfl, rfl, rfl, rfl, rfl, rfl, rfl⟩ rfl rfl rfl
  | mem m => exact ((advance_runsAlike ..).memWrite ..).setP _

theorem rmwEffect_runsAlike {m : RmwMode} (h : (Form.rmw mn m).inTable = true) :
    RunsAlike s (u.withCore s) (rmwEffect mn m s) (rmwEffect mn m (u.withCore s)) := by
  cases mn with
  | ASL | LSR | ROL | ROR | INC | DEC => exact rmw_runsAlike ..
  | _ => cases h

theorem impliedEffect_runsAlike (h : (Form.implied mn).inTable = true) :
    RunsAlike s (u.withCore s) (impliedEffect mn s) (impliedEffect mn (u.withCore s)) := by
  cases mn with
  | PHA | PHP => exact (advance_runsAlike ..).push _
  | TAX | TAY | TXA | TYA | TSX | TXS | PLA | PLP | INX | INY | DEX | DEY | RTS | RTI | BRK | CLC | SEC | CLI | SEI
  | CLD | SED | CLV | NOP | ILL => exact SameCore.runsAlike ⟨rfl, rfl, rfl, rfl, rfl, rfl, rfl, rfl⟩ rfl rfl rfl
  | _ => cases h

theorem branch_runsAlike (cond : Bool) (d : Byte) :
    RunsAlike s (u.withCore s) (branch cond d s) (branch cond d (u.withCore s)) := by
  cases cond <;> exact SameCore.runsAlike ⟨rfl, rfl, rfl, rfl, rfl, rfl, rfl, rfl⟩ rfl rfl rfl

theorem branchEffect_runsAlike {d : Byte} (h : (Form.branch mn d).inTable = true) :
    RunsAlike s (u.withCore s) (branchEffect mn d s) (branchEffect mn d (u.withCore s)) := by
  cases mn with
  | BCC | BCS | BEQ | BNE | BMI | BPL | BVC | BVS => exact branch_runsAlike ..
  | _ => cases h

/-- What an instruction does is a function of the registers, `Mem` and the parameters alone (R240). -/
theorem formEffect_runsAlike {f : Form} (h : f.inTable = true) :
    RunsAlike s (u.withCore s) (formEffect f s) (formEffect f (u.withCore s)) := by
  cases f with
  | implied mn => exact impliedEffect_runsAlike s u h
  | read mn m => exact readEffect_runsAlike s u h
  | store mn m => exact storeEffect_runsAlike s u h
  | rmw mn m => exact rmwEffect_runsAlike s u h
  | branch mn d => exact branchEffect_runsAlike s u h
  | absTarget mn t =>
    cases mn with
    | JSR => exact (((advance_runsAlike ..).push _).push _).setPc _
    | JMP => exact (advance_runsAlike ..).setPc _
    | _ => cases h
  | indTarget mn p =>
    cases mn with
    | JMP => exact (advance_runsAlike ..).setPc _
    | _ => cases h

end

/-! ### What may be emitted -/

/-- The mnemonics that write to memory elsewhere than to the stack. -/
def memoryWriters : List Mnemonic := [.STA, .STX, .STY, .ASL, .LSR, .ROL, .ROR, .INC, .DEC]

theorem branch_chip (cond : Bool) (d : Byte) (s : State) : (branch cond d s).chip = s.chip := by
  cases cond <;> rfl

/-- An instruction that is no store and no read-modify-write emits nothing: the stack is outside the window (R61). -/
theorem formEffect_chip {f : Form} (h : f.mnemonic ∉ memoryWriters) (s : State) : (formEffect f s).chip = s.chip := by
  cases f with
  | implied mn =>
    cases mn with
    | PHA | PHP => exact push_chip ..
    | _ => rfl
  | read mn m => cases mn <;> rfl
  | store mn m =>
    have hmn : mn ∉ memoryWriters := h
    cases mn with
    | STA | STX | STY => exact absurd (by decide) hmn
    | _ => rfl
  | rmw mn m =>
    have hmn : mn ∉ memoryWriters := h
    cases mn with
    | ASL | LSR | ROL | ROR | INC | DEC => exact absurd (by decide) hmn
    | _ => rfl
  | branch mn d =>
    cases mn with
    | BCC | BCS | BEQ | BNE | BMI | BPL | BVC | BVS => exact branch_chip ..
    | _ => rfl
  | absTarget mn t =>
    cases mn with
    | JSR => exact (push_chip ..).trans (push_chip ..)
    | _ => rfl
  | indTarget mn p => cases mn <;> rfl

/-- The pokes of one write, R53, with the window's bounds. -/
theorem chipWrite_shape {c : Word} (hc : inChipWindow c = true) (b : Byte) :
    (∃ r v, chipWrite c b = [.poke r v]) ∨
    ∃ (a : Word) (v : Byte), 0xD419 ≤ a.toNat ∧ a.toNat ≤ 0xD7FF ∧
      chipWrite c b = [.poke (BitVec.ofNat 5 (a.toNat % 32)) v, .pokeDigi a v] := by
  obtain ⟨-, hhi⟩ := (inChipWindow_iff c).1 hc
  rw [chipWrite_eq]
  split
  · next hlo => exact .inr ⟨c, b, hlo, hhi, rfl⟩
  · exact .inl ⟨_, _, rfl⟩

end Sys2Proof.Machine

namespace Sys2Proof.Proofs.RunSubroutineFamily
open Sys2Proof.Machine

/-- Settles O9: the second state is itself with what an instruction looks at taken from the first. -/
theorem instructionDependsOnRegistersAndMem : Obligations.InstructionDependsOnRegistersAndMem := by
  unfold Obligations.InstructionDependsOnRegistersAndMem
  intro s t h
  obtain ⟨hcore, hcyc, es, hs, ht⟩ := formEffect_runsAlike s t (fetch s).form_inTable
  rw [← h.eq_withCore] at hcore hcyc ht
  refine ⟨_, _, es, exec_eq_effect (fetch s) s, ?_, hcore, hcyc, hs, ht⟩
  rw [coreStep, h.fetch]
  exact exec_eq_effect ..

/-- Settles O10: an instruction makes at most one write that can reach the chip port. -/
theorem atMostOnePokeAnInstruction : Obligations.AtMostOnePokeAnInstruction := by
  unfold Obligations.AtMostOnePokeAnInstruction
  intro i s t hexec
  have hwriter (hne : t.chip ≠ s.chip) : i.mnemonic ∈ memoryWriters := by
    by_contra hmn
    rw [exec_next_effect hexec] at hne
    exact hne (formEffect_chip hmn s)
  rcases (exec_next hexec).emits with hc | ⟨c, b, hw, hc⟩
  · exact ⟨[], by simp [hc], .inl rfl, fun h => absurd rfl h⟩
  · exact ⟨_, hc, .inr (chipWrite_shape hw b), fun hne => hwriter (by simpa [hc] using hne)⟩

end Sys2Proof.Proofs.RunSubroutineFamily
end

section
/-! The commands of the frame sequencer (spec/49_playback_scheduler.md), stage by stage. -/

namespace Sys2Proof.Machine
open Sys2Proof.Claims

/-! ### The length of a frame -/

/-- R269 on 16-bit values: the frame is 20000 microseconds long for a timer of 0 too, since its quotient is 0 there and
nowhere else. -/
theorem frameMicros_eq (timer : Nat) (speedFlag : Byte) :
    frameMicros timer speedFlag = if timer = 0 ∨ speedFlag = 0 then 20000 else 20000 * timer / 19456 := by
  have hzero : 20000 * timer / 19456 = 0 ↔ timer = 0 := by omega
  exact if_congr (or_congr_left hzero) rfl rfl

/-- R281: a speed flag is 0 or it is not; its value does not matter. -/
theorem frameMicros_of_speedFlag_ne_zero {speedFlag : Byte} (h : speedFlag ≠ 0) (timer : Nat) :
    frameMicros timer speedFlag = frameMicros timer 1 := by
  have hone : (1 : Byte) ≠ 0 := by decide
  simp only [frameMicros_eq, h, hone]

/-- R268 to R270: the frame that begins, from the latch bytes and the speed flag. -/
theorem nextFrameSamples_eq (s : State) :
    nextFrameSamples s = s.cfg.sampleRate * frameMicros
      ((memRead s s.cfg.ciaTimerLo).toNat + 256 * (memRead s s.cfg.ciaTimerHi).toNat) s.speedFlag / 1000000 := by
  rw [nextFrameSamples, timerValue, memRead16_toNat]
  rfl

section
variable {s : State}

/-! ### `nextTrack` and `prevTrack` -/

theorem stepTrack_written (hw : s.trackWritten = true) (d : Int) :
    stepTrack d s = changeTrack (s.currentTrack.toNat + d) s :=
  if_pos hw

theorem stepTrack_ignored {d : Int} (h : s.trackWritten = false ∨ s.loaded = false ∨
      (s.currentTrack.toNat + d < 0 ∨ (s.subsongCount.toNat : Int) < s.currentTrack.toNat + d)) :
    stepTrack d s = finish .completed s := by
  cases hw : s.trackWritten with
  | false => exact if_neg (by simp [hw])
  | true => rw [stepTrack_written hw, changeTrack_ignored (h.resolve_left (by simp [hw]))]

/-! ### `load` -/

theorem accept_load {image : Memory} (hwf : Memory.wf image = true) (initAddr playAddr : Word)
    (startTrack subsongCount speedFlag : Byte) (s : State) :
    accept (.load image initAddr playAddr startTrack subsongCount speedFlag) s =
      .next (load image initAddr playAddr startTrack subsongCount speedFlag s) :=
  if_pos hwf

/-- R265: the volume, then the start track. -/
theorem loadTail_valid (hl : s.loaded = true) (h : s.startTrack ≤ s.subsongCount) :
    loadTail s = startCall .trackInit s.initAddr s.startTrack { s with
      chip := s.chip ++ [.poke 24 15], ready := false, currentTrack := s.startTrack, trackWritten := true } := by
  have hofInt : BitVec.ofInt 8 s.startTrack.toNat = s.startTrack := by
    rw [BitVec.ofInt_natCast, BitVec.ofNat_toNat, BitVec.setWidth_eq]
  rw [loadTail, memWrite_volume, changeTrack_valid (by exact hl) (Int.natCast_nonneg _) (by exact_mod_cast h), hofInt]

/-- R263, R265: the volume, and no start track above the last one. -/
theorem loadTail_ignored (h : s.subsongCount < s.startTrack) :
    loadTail s = finish .completed { s with chip := s.chip ++ [.poke 24 15] } := by
  rw [loadTail, memWrite_volume]
  exact changeTrack_ignored (.inr (.inr (Int.ofNat_lt.2 (BitVec.lt_def.1 h))))

/-- R264: the play address from the vector mirror, in integers. -/
theorem loadVectorDone_eq (s : State) :
    loadVectorDone s = loadTail { s with
      playAddr := BitVec.ofNat 16 ((memRead s 0x0314).toNat + 256 * (memRead s 0x0315).toNat) } := by
  rw [loadVectorDone, memRead16_eq_ofNat]

/-! ### `fill` -/

/-- R261: the answer listed, if it is one of the collaborator's contract. -/
theorem renderAnswer_of_listed {count a : Nat} (h : s.answers.head? = some a) (ha : a ≤ count) :
    renderAnswer count s = a := by
  obtain ⟨rest, hrest⟩ := List.head?_eq_some_iff.1 h
  rw [renderAnswer, hrest]
  exact Nat.min_eq_left ha

end

end Sys2Proof.Machine

namespace Sys2Proof.Proofs.SequencerFamily
open Sys2Proof.Machine Sys2Proof.Claims

/-- Settles O50: each command is done where it is accepted. -/
theorem stopOnlyClearsReady : Obligations.StopOnlyClearsReady := by
  unfold Obligations.StopOnlyClearsReady
  intro s cs hp
  refine ⟨fun hc => (step_reply hp hc rfl hp).trans rfl, fun n offset hc => ⟨_, step_reply hp hc rfl hp, ?_⟩⟩
  rw [step_reply (s := { s with
    ready := false, commands := .fill n offset :: cs, replies := s.replies ++ [.completed] }) hp rfl rfl hp,
    List.append_assoc]
  rfl

/-- Settles O51: `fill` is done where it is accepted. -/
theorem fillOnAStoppedSession : Obligations.FillOnAStoppedSession := by
  unfold Obligations.FillOnAStoppedSession
  intro s cs n offset hp hc hr
  exact step_reply hp hc (congrArg Host.Outcome.next (fill_stopped (by exact hr) n offset)) hp

/-- Settles O52: the three commands are done where they are accepted, and the last two are the first one. -/
theorem trackOutOfRangeIsIgnored : Obligations.TrackOutOfRangeIsIgnored := by
  unfold Obligations.TrackOutOfRangeIsIgnored
  intro s cs hp
  have hignored {c : HostCommand} (hacc : accept c { s with commands := cs } =
      .next (finish .completed { s with commands := cs })) : step { s with commands := c :: cs } =
      .next { s with commands := cs, replies := s.replies ++ [.completed] } :=
    step_reply (s := { s with commands := c :: cs }) hp rfl hacc hp
  have haccept (c : HostCommand) : step { s with commands := c :: cs } = accept c { s with commands := cs } :=
    step_idle (s := { s with commands := c :: cs }) hp rfl
  refine ⟨fun n h => ?change, fun h => ?next, fun h => ?prev, fun hw => ⟨?nextSum, ?prevSum⟩⟩
  case change => exact hignored (congrArg Host.Outcome.next (changeTrack_ignored (by exact h)))
  case next =>
    refine hignored (congrArg Host.Outcome.next (stepTrack_ignored (h.imp_right (.imp_right fun hlast => ?_))))
    exact .inr (Int.lt_add_one_of_le (by exact_mod_cast hlast))
  case prev =>
    refine hignored (congrArg Host.Outcome.next (stepTrack_ignored (h.imp_right (.imp_right fun hfirst => ?_))))
    exact .inl (by simp [hfirst])
  case nextSum =>
    rw [haccept, haccept]
    exact congrArg Host.Outcome.next (stepTrack_written (by exact hw) 1)
  case prevSum =>
    rw [haccept, haccept, Int.sub_eq_add_neg]
    exact congrArg Host.Outcome.next (stepTrack_written (by exact hw) (-1))

/-- Settles O53: the three stages of a track in range. -/
theorem changeTrackStages : Obligations.ChangeTrackStages := by
  unfold Obligations.ChangeTrackStages
  intro s hs hl
  refine ⟨fun n cs hp hc h0 hn => ?_, fun total hp hpc => ?_, fun total hp hpc hcounter => ?_⟩
  · refine ⟨_, (step_idle hp hc).trans (congrArg Host.Outcome.next (changeTrack_valid (by exact hl) h0 hn)), ?_⟩
    exact startCall_enteredRoutine (by exact hs) ..
  · refine ⟨_, (step_return hp hpc).trans (congrArg Host.Outcome.next (trackInitDone_eq hl)), ?_⟩
    exact startCall_enteredRoutine (by exact hs) ..
  · rw [step_return hp hpc, resume, accountFrame_some hcounter, Nat.zero_add]
    rfl

/-- Settles O54: both entries into the end of `load`, which selects the start track if there is one. -/
theorem loadStages : Obligations.LoadStages := by
  unfold Obligations.LoadStages
  refine ⟨?accepted, ?returned⟩
  case accepted =>
    rintro s image initAddr playAddr startTrack subsongCount speedFlag cs hp hc hwf u rfl
    have hacc := accept_load hwf initAddr playAddr startTrack subsongCount speedFlag { s with commands := cs }
    refine ⟨fun hvector => ?_, fun hdirect htrack => ?_, fun hdirect htrack => ?_⟩
    · rw [load, if_pos hvector] at hacc
      exact ⟨_, (step_idle hp hc).trans hacc, startCall_enteredRoutine (by exact hwf) ..⟩
    · rw [load, if_neg hdirect, loadTail_valid rfl htrack] at hacc
      exact ⟨_, (step_idle hp hc).trans hacc, startCall_enteredRoutine (by exact hwf) ..⟩
    · rw [load, if_neg hdirect, loadTail_ignored htrack] at hacc
      exact step_reply hp hc hacc hp
  case returned =>
    rintro s total u hs hp hpc hl rfl
    have hstep := step_return hp hpc
    rw [resume, loadVectorDone_eq] at hstep
    refine ⟨fun htrack => ?_, fun htrack => ?_⟩
    · rw [loadTail_valid (by exact hl) (by exact htrack)] at hstep
      exact ⟨_, hstep, startCall_enteredRoutine (by exact hs) ..⟩
    · rw [loadTail_ignored (by exact htrack)] at hstep
      exact hstep

/-- Settles O55: the three branches before the play routine, and the sum after it. -/
theorem advanceFrame : Obligations.AdvanceFrame := by
  unfold Obligations.AdvanceFrame
  intro s hs
  refine ⟨fun cs hp hc hl => ?_, fun cs hp hc hl hf => ?_, fun total k us n hpc hk hus hn => ?_⟩
  · exact step_reply hp hc (congrArg Host.Outcome.next (advanceFrame_unloaded (by exact hl) .host)) hp
  · have hcall := advanceFrame_playing (s := { s with commands := cs }) hl hf .host
    refine ⟨_, (step_idle hp hc).trans (congrArg Host.Outcome.next hcall), ?_⟩
    exact startCall_enteredRoutine (by exact hs) ..
  · have hframe : nextFrameSamples s = n := by
      rw [hn, hus, nextFrameSamples_eq, frameMicros_eq]
    refine ⟨fun hp => ?_, fun remaining written offset hp => ?_⟩
    · rw [step_return hp hpc, resume, accountFrame_some hk, hframe]
      rfl
    · rw [step_return hp hpc, resume, accountFrame_some hk, hframe]
      rfl

/-- Settles O56: the terminal branch ends the command where it is accepted. -/
theorem terminalTransition : Obligations.TerminalTransition := by
  unfold Obligations.TerminalTransition
  intro s cs hp hc hl hf
  have hacc : accept .advanceFrame { s with commands := cs } =
      .next (finish .completed (terminalFrame { s with commands := cs })) :=
    congrArg Host.Outcome.next (advanceFrame_finished (by exact hl) (by exact hf) .host)
  rw [terminalFrame_eq] at hacc
  exact (step_reply hp hc hacc hp).trans (by rw [hf])

/-- Settles O57: the quotients are bounded by linear arithmetic; the rows of the table are evaluated at the speed flag
1. -/
theorem frameLength : Obligations.FrameLength := by
  unfold Obligations.FrameLength
  refine ⟨fun timer speedFlag htimer => ⟨fun h => ?_, fun ht hf => ?_⟩, fun us => ?_, fun row hrow speedFlag hf => ?_⟩
  · rw [frameMicros_eq, if_pos h]
  · rw [frameMicros_eq, if_neg (not_or.2 ⟨ht, hf⟩)]
    omega
  · unfold frameSamples
    omega
  · rw [frameMicros_of_speedFlag_ne_zero hf]
    revert row
    decide

/-- Settles O58: `fill` on a ready session, and the turn of its loop that reaches the boundary. -/
theorem fillStartsAndBoundarySegment : Obligations.FillStartsAndBoundarySegment := by
  unfold Obligations.FillStartsAndBoundarySegment
  intro s hs hl hr hf
  refine ⟨fun n offset cs hp hc => ?_, fun remaining written offset k hp hk hle => ⟨fun hzero => ?_, fun hpos => ?_⟩⟩
  · exact (step_idle hp hc).trans (congrArg Host.Outcome.next (fill_ready (by exact hr) n offset))
  · have hstep := step_filling hp
    rw [fillTurn_boundary hk hle, boundarySegment, if_pos hzero, advanceFrame_playing hl hf] at hstep
    exact ⟨_, hstep, startCall_enteredRoutine hs ..⟩
  · have hstep := step_filling hp
    rw [fillTurn_boundary hk hle, boundarySegment_pos hpos.ne',
      advanceFrame_playing (by exact hl) (by exact hf)] at hstep
    refine ⟨renderAnswer k s, _, renderAnswer_le s k, fun a => renderAnswer_of_listed, hstep, ?_⟩
    rw [startCall_draws]
    exact startCall_enteredRoutine (by exact hs) ..

/-- Settles O59: the turn of the loop of `fill` that ends it. -/
theorem fillFinalSegment : Obligations.FillFinalSegment := by
  unfold Obligations.FillFinalSegment
  intro s remaining written offset hp hcounter
  have hstep := step_filling hp
  rw [fillTurn_final hcounter] at hstep
  refine ⟨fun hzero => ?_, fun hpos => ?_⟩
  · rw [hstep, finalSegment, if_pos hzero, fillDone_eq]
    rfl
  · rw [finalSegment_pos hpos.ne', fillDone_eq] at hstep
    exact ⟨renderAnswer remaining s, _, renderAnswer_le s remaining, fun a => renderAnswer_of_listed, hstep, rfl⟩

end Sys2Proof.Proofs.SequencerFamily
end
